-- ==== Sys2Proof/Word.lean ====
section
/-! DEFINITION. The widths of the core's values (00_scope.md R6, R7: every value is unsigned, bit 0 is the least
significant) and the two small types that name its banks (10_state.md R20, R22 to R24). -/

namespace Sys2Proof

/-- A sample x or y, `XW` = `YW` = 32 bits (R6, R20). -/
abbrev Sample := BitVec 32

/-- A value of the datapath or the accumulator, `DW` = `ACCW` = 64 bits (R6, R27). -/
abbrev Word := BitVec 64

/-- The exponent selector, `EXPW` = 3 bits (R6, R71). -/
abbrev Exponent := BitVec 3

/-- A slot number of a bank, `CURW` = 4 bits, as `write_cursor` holds it (R21). -/
abbrev Cursor := BitVec 4

/-- An index of the sample arrays, 0..31 (R20, R50). -/
abbrev Slot := Fin 32

/-- One of the two banks (R6 `NBANKS` = 2, R20). -/
inductive Bank where
  | zero
  | one
deriving DecidableEq, Repr

/-- One bit per bank, as `full[0..1]` and `processing[0..1]` are (R23, R24). -/
structure BankFlags where
  zero : Bool
  one  : Bool
deriving DecidableEq, Repr

end Sys2Proof
end

