-- ==== Sys2Proof/Config.lean ====
section
/-! DEFINITION. The implementation parameters of 00_scope.md R6: the fixed ones as named numbers, the ones that are a
decision or OPEN as the record `Config`, which State holds as a field no step writes. A statement about every state is
thus a statement about every value of these parameters, as R6 asks ("A model takes every OPEN parameter as an
argument"). The spec leaves no RESULT undefined, so there is no free value here. -/

namespace Sys2Proof

/-- R6 `NBANKS`. -/
def nBanks : Nat := 2
/-- R6 `BANK_DEPTH`. -/
def bankDepth : Nat := 16
/-- R6 `ARRAY_DEPTH` = `NBANKS`·`BANK_DEPTH` (90_conflicts.md C1). -/
def arrayDepth : Nat := 32
/-- R6 `LANES`. -/
def lanes : Nat := 16
/-- R6 `TREE_LEVELS`. -/
def treeLevels : Nat := 4

/-- R6 `PULSE_SOURCE`: how an accept or flush pulse is made from the register layer (R188, D2). -/
inductive PulseSource where
  | risingEdge
  | writeStrobe
deriving DecidableEq, Repr

/-- R6 `UNSETTLED_POLICY`: what the model does on a tick the source does not settle (R197, D23). -/
inductive UnsettledPolicy where
  | reference
  | refuse
deriving DecidableEq, Repr

/-- R6 `RESULT_WORD_ORDER`: whether the first bus word of `result` holds its lowest or its highest bits (R54, D17). -/
inductive WordOrder where
  | lowFirst
  | highFirst
deriving DecidableEq, Repr

/-- The parameters of R6 that are a decision or OPEN, and `SENTINEL`, which R107 asks to be taken as a parameter. -/
structure Config where
  /-- `SENTINEL`, the output of the exponents 5 to 7 (R107, D13). -/
  sentinel             : Word
  /-- `PULSE_SOURCE` (D2). -/
  pulseSource          : PulseSource
  /-- `FLUSH_MARKS_PROCESSING` (R161, D7). -/
  flushMarksProcessing : Bool
  /-- `UNSETTLED_POLICY` (R197, D23). -/
  unsettledPolicy      : UnsettledPolicy
  /-- `BUS_WIDTH`, the bits of one bus data word; OPEN (R54, D17). -/
  busWidth             : Nat
  /-- `RESULT_WORD_ORDER`; OPEN (R54, D17). -/
  resultWordOrder      : WordOrder
  /-- `CSR_ADDR`, the physical address of each register, by its index 0..7; OPEN (R59, D17). -/
  csrAddr              : Vector Nat 8
deriving DecidableEq, Repr

/-- The defaults R6 gives. The three OPEN parameters have none: DESIGN CHOICE (log entry 2), one whole register in one
bus word, and each register at the address that is its index. -/
def Config.default : Config where
  sentinel             := 0x7FC00000
  pulseSource          := .risingEdge
  flushMarksProcessing := true
  unsettledPolicy      := .reference
  busWidth             := 64
  resultWordOrder      := .lowFirst
  csrAddr              := Vector.ofFn fun r => r.val

end Sys2Proof
end

