-- ==== Sys2Proof/Syntax.lean ====
section
/-! DEFINITION. The syntax: the input bundles TICK and REGS, the rows of the five selector formats, one constructor of
`Instr` per row of spec/opcode_table.json, and `Code`, an instruction as the bits of its format (30_encoding.md R70 to
R78). The core has no instruction stream (R2, R36); what stands in for one is the host's list of events (log entry 1). -/

namespace Sys2Proof

/-- The input bundle of one tick, format TICK (R76, R180). -/
structure TickIn where
  /-- level of `xk_val` -/
  xk      : Sample
  /-- level of `yk_val` -/
  yk      : Sample
  /-- level of `exp` -/
  exp     : Exponent
  /-- the accept pulse -/
  enRe    : Bool
  /-- the flush pulse -/
  doneRe  : Bool
  /-- level of `done` -/
  doneLvl : Bool
deriving DecidableEq, Repr

/-- The register levels of one tick, format REGS (R77). -/
structure RegsIn where
  xkVal  : Sample
  ykVal  : Sample
  exp    : Exponent
  enable : Bool
  done   : Bool
deriving DecidableEq, Repr

/-- The rows of format EXP3 (R71). -/
inductive PowRow where
  | pow0
  | pow1
  | pow2
  | pow3
  | pow4
  | sent5
  | sent6
  | sent7
deriving DecidableEq, Repr

/-- The rows of format ACPT3 (R72), each with the bits its pattern leaves open. -/
inductive AcptRow where
  /-- pattern `0--` -/
  | noWrite (bz c15 : Bool)
  /-- pattern `11-` -/
  | dropWrite (c15 : Bool)
  /-- pattern `100` -/
  | acceptWrite
  /-- pattern `101` -/
  | acceptLast
deriving DecidableEq, Repr

/-- The rows of format DRN2 (R73), each with the bits its pattern leaves open. -/
inductive DrnRow where
  /-- pattern `10` -/
  | drain
  /-- pattern `0-` -/
  | noDrain (p : Bool)
  /-- pattern `11` -/
  | noDrainHeld
deriving DecidableEq, Repr

/-- The rows of format CTRL4 (R74), each with the bits its pattern leaves open. -/
inductive CtrlRow where
  /-- pattern `1---` -/
  | acc (de fp dl : Bool)
  /-- pattern `01--` -/
  | flushStart (fp dl : Bool)
  /-- pattern `001-` -/
  | flushDone (dl : Bool)
  /-- pattern `0000` -/
  | validClear
  /-- pattern `0001` -/
  | validHold
deriving DecidableEq, Repr

/-- The combinational functions of format COMB, which has no selector bits (R75): the function and its operands. -/
inductive CombRow where
  | mul (a b : Word)
  | lane (b : Bank) (i : Cursor) (e : Exponent)
  | tree (p : Vector Word 16)
  | bankSum (b : Bank) (e : Exponent)
  | busy
  | pulse
deriving DecidableEq, Repr

/-- One constructor per row of spec/opcode_table.json, in its order. -/
inductive Instr where
  -- EXP3 (R71): the PowerUnit's arms, over a base
  | pow0 (base : Word)
  | pow1 (base : Word)
  | pow2 (base : Word)
  | pow3 (base : Word)
  | pow4 (base : Word)
  | powSent5 (base : Word)
  | powSent6 (base : Word)
  | powSent7 (base : Word)
  -- ACPT3 (R72): the write path
  | noWrite (bz c15 : Bool)
  | dropWrite (c15 : Bool)
  | acceptWrite
  | acceptLast
  -- DRN2 (R73): the drain decision
  | drain
  | noDrain (p : Bool)
  | noDrainHeld
  -- CTRL4 (R74): the control chain
  | acc (de fp dl : Bool)
  | flushStart (fp dl : Bool)
  | flushDone (dl : Bool)
  | validClear
  | validHold
  -- COMB (R75): the combinational functions
  | mul (a b : Word)
  | lane (b : Bank) (i : Cursor) (e : Exponent)
  | tree (p : Vector Word 16)
  | bankSum (b : Bank) (e : Exponent)
  | busy
  | pulse
  -- TICK and REGS (R76, R77): one whole tick
  | tick (inp : TickIn)
  | regs (lv : RegsIn)
  -- CSR (R78): the host's register accesses; a write carries its data word, a read of `result` the number of the
  -- bus word it asks for
  | wrXk (v : Nat)
  | wrYk (v : Nat)
  | wrExp (v : Nat)
  | wrEnable (v : Nat)
  | wrDone (v : Nat)
  | rdResult (part : Nat)
  | rdValid
  | rdBusy
deriving DecidableEq, Repr

/-- An instruction as bits: a format of R70 with the bits of that format, and beside them the operands that R78 and
R100, R108, R140 to R143 let travel separately. Which format a word is in is not a bit of the word (R70, R83). -/
inductive Code where
  | exp3 (e : BitVec 3) (base : Word)
  | acpt3 (w : BitVec 3)
  | drn2 (w : BitVec 2)
  | ctrl4 (w : BitVec 4)
  | comb (f : CombRow)
  | tick (w : BitVec 70)
  | regs (w : BitVec 69)
  /-- `c` is `dir` and `idx` (R78); `data` is the data word of a write, or the number of the bus word of a read. -/
  | csr (c : BitVec 4) (data : Nat)
  /-- The same access named by its physical bus address, which `CSR_ADDR` maps to an index (R59, R78). -/
  | bus (write : Bool) (addr : Nat) (data : Nat)
deriving DecidableEq, Repr

/-- What the host presents, in the order it presents it (log entry 1). -/
inductive Event where
  /-- a tick in which the host presents nothing: the core reads the stored register levels (R31, R63) -/
  | idle
  /-- an instruction -/
  | word (c : Code)
  /-- a system reset between two ticks (R222) -/
  | reset
deriving DecidableEq, Repr

end Sys2Proof
end

