-- ==== Sys2Proof/WellFormed.lean ====
section
/-! DEFINITION. Which instructions are accesses the host can make: a data word has `BUS_WIDTH` bits
(44_tick_and_interface.md section 3) and `result` has only so many bus words (R54, R194). Every other operand is
bounded by its type, since no pattern of the other formats is illegal (R79). -/

namespace Sys2Proof

/-- A data word of `BUS_WIDTH` bits (44_tick_and_interface.md section 3; 20_memory.md R54). -/
def Config.dataFits (cfg : Config) (v : Nat) : Bool := decide (v < 2 ^ cfg.busWidth)

/-- Bus word `part` of `result` exists: some of its bits lie below bit 64 (R54, R194). -/
def Config.partExists (cfg : Config) (part : Nat) : Bool := decide (part * cfg.busWidth < 64)

/-- The two checks, by instruction. What reaches the core passes them, since the bus cuts every access to such a one
(log entry 16). -/
def Instr.wellFormed (cfg : Config) : Instr → Bool
  | .pow0 _ => true
  | .pow1 _ => true
  | .pow2 _ => true
  | .pow3 _ => true
  | .pow4 _ => true
  | .powSent5 _ => true
  | .powSent6 _ => true
  | .powSent7 _ => true
  | .noWrite _ _ => true
  | .dropWrite _ => true
  | .acceptWrite => true
  | .acceptLast => true
  | .drain => true
  | .noDrain _ => true
  | .noDrainHeld => true
  | .acc _ _ _ => true
  | .flushStart _ _ => true
  | .flushDone _ => true
  | .validClear => true
  | .validHold => true
  | .mul _ _ => true
  | .lane _ _ _ => true
  | .tree _ => true
  | .bankSum _ _ => true
  | .busy => true
  | .pulse => true
  | .tick _ => true
  | .regs _ => true
  | .wrXk v => cfg.dataFits v
  | .wrYk v => cfg.dataFits v
  | .wrExp v => cfg.dataFits v
  | .wrEnable v => cfg.dataFits v
  | .wrDone v => cfg.dataFits v
  | .rdResult part => cfg.partExists part
  | .rdValid => true
  | .rdBusy => true

end Sys2Proof
end

