-- ==== Sys2Proof/Decode.lean ====
section
/-! DEFINITION. Decoding and encoding, from the formats of 30_encoding.md (R70 to R79): the selector decoders, which a
tick itself uses (R81), the packing of the TICK and REGS bundles, the total decoder of a `Code`, its encoder, and the
opcode table's own mask and match of each row. -/

namespace Sys2Proof

/-! ### Selector words (R71 to R74, R78) -/

/-- The 2-bit word `{b1, b0}`. -/
def bits2 (b1 b0 : Bool) : BitVec 2 := BitVec.ofBool b1 ++ BitVec.ofBool b0

/-- The 3-bit word `{b2, b1, b0}`. -/
def bits3 (b2 b1 b0 : Bool) : BitVec 3 := BitVec.ofBool b2 ++ BitVec.ofBool b1 ++ BitVec.ofBool b0

/-- The 4-bit word `{b3, b2, b1, b0}`. -/
def bits4 (b3 b2 b1 b0 : Bool) : BitVec 4 :=
  BitVec.ofBool b3 ++ BitVec.ofBool b2 ++ BitVec.ofBool b1 ++ BitVec.ofBool b0

/-- R71: every value of `e[2:0]` selects one arm; none is reserved (R79). -/
def decodeExp3 (e : BitVec 3) : PowRow :=
  match e.getLsbD 2, e.getLsbD 1, e.getLsbD 0 with
  | false, false, false => .pow0
  | false, false, true  => .pow1
  | false, true,  false => .pow2
  | false, true,  true  => .pow3
  | true,  false, false => .pow4
  | true,  false, true  => .sent5
  | true,  true,  false => .sent6
  | true,  true,  true  => .sent7

/-- R72: the patterns `0--`, `11-`, `100`, `101` over `{en, bz, c15}`. -/
def decodeAcpt3 (w : BitVec 3) : AcptRow :=
  match w.getLsbD 2, w.getLsbD 1, w.getLsbD 0 with
  | false, bz,    c15   => .noWrite bz c15
  | true,  true,  c15   => .dropWrite c15
  | true,  false, false => .acceptWrite
  | true,  false, true  => .acceptLast

/-- R73: the patterns `10`, `0-`, `11` over `{f, p}`. -/
def decodeDrn2 (w : BitVec 2) : DrnRow :=
  match w.getLsbD 1, w.getLsbD 0 with
  | true,  false => .drain
  | false, p     => .noDrain p
  | true,  true  => .noDrainHeld

/-- R74: the patterns `1---`, `01--`, `001-`, `0000`, `0001` over `{ss, de, fp, dl}`. -/
def decodeCtrl4 (w : BitVec 4) : CtrlRow :=
  match w.getLsbD 3, w.getLsbD 2, w.getLsbD 1, w.getLsbD 0 with
  | true,  de,    fp,    dl    => .acc de fp dl
  | false, true,  fp,    dl    => .flushStart fp dl
  | false, false, true,  dl    => .flushDone dl
  | false, false, false, false => .validClear
  | false, false, false, true  => .validHold

/-! ### The TICK and REGS bundles (R76, R77) -/

/-- R76: `xk` 31:0, `yk` 63:32, `exp` 66:64, `en_re` 67, `done_re` 68, `done_lvl` 69. -/
def unpackTick (w : BitVec 70) : TickIn where
  xk      := w.extractLsb' 0 32
  yk      := w.extractLsb' 32 32
  exp     := w.extractLsb' 64 3
  enRe    := w.getLsbD 67
  doneRe  := w.getLsbD 68
  doneLvl := w.getLsbD 69

/-- The bundle as one 70-bit value, `{done_lvl, done_re, en_re, exp, yk, xk}` (R76). -/
def packTick (inp : TickIn) : BitVec 70 :=
  BitVec.ofBool inp.doneLvl ++ BitVec.ofBool inp.doneRe ++ BitVec.ofBool inp.enRe ++ inp.exp ++ inp.yk ++ inp.xk

/-- R77: `xk_val` 31:0, `yk_val` 63:32, `exp` 66:64, `enable` 67, `done` 68. -/
def unpackRegs (w : BitVec 69) : RegsIn where
  xkVal  := w.extractLsb' 0 32
  ykVal  := w.extractLsb' 32 32
  exp    := w.extractLsb' 64 3
  enable := w.getLsbD 67
  done   := w.getLsbD 68

/-- The register levels as one 69-bit value, `{done, enable, exp, yk_val, xk_val}` (R77). -/
def packRegs (lv : RegsIn) : BitVec 69 :=
  BitVec.ofBool lv.done ++ BitVec.ofBool lv.enable ++ lv.exp ++ lv.ykVal ++ lv.xkVal

/-! ### The decoder -/

/-- What a code decodes to. -/
inductive Decoded where
  /-- an instruction -/
  | instr (i : Instr)
  /-- one of the eight reserved register codes (R79) -/
  | reserved (c : BitVec 4)
  /-- an address that `CSR_ADDR` gives to no register (R59) -/
  | unmapped (addr : Nat)
deriving DecidableEq, Repr

/-- R71 with its operand. -/
def instrOfPow (base : Word) : PowRow → Instr
  | .pow0  => .pow0 base
  | .pow1  => .pow1 base
  | .pow2  => .pow2 base
  | .pow3  => .pow3 base
  | .pow4  => .pow4 base
  | .sent5 => .powSent5 base
  | .sent6 => .powSent6 base
  | .sent7 => .powSent7 base

/-- R72. -/
def instrOfAcpt : AcptRow → Instr
  | .noWrite bz c15 => .noWrite bz c15
  | .dropWrite c15  => .dropWrite c15
  | .acceptWrite    => .acceptWrite
  | .acceptLast     => .acceptLast

/-- R73. -/
def instrOfDrn : DrnRow → Instr
  | .drain       => .drain
  | .noDrain p   => .noDrain p
  | .noDrainHeld => .noDrainHeld

/-- R74. -/
def instrOfCtrl : CtrlRow → Instr
  | .acc de fp dl     => .acc de fp dl
  | .flushStart fp dl => .flushStart fp dl
  | .flushDone dl     => .flushDone dl
  | .validClear       => .validClear
  | .validHold        => .validHold

/-- R75. -/
def instrOfComb : CombRow → Instr
  | .mul a b     => .mul a b
  | .lane b i e  => .lane b i e
  | .tree p      => .tree p
  | .bankSum b e => .bankSum b e
  | .busy        => .busy
  | .pulse       => .pulse

/-- R78's eight access codes over `{dir, idx}`; R79 reserves the other eight. -/
def decodeCsr (c : BitVec 4) (data : Nat) : Decoded :=
  match c.getLsbD 3, c.getLsbD 2, c.getLsbD 1, c.getLsbD 0 with
  | true,  false, false, false => .instr (.wrXk data)
  | true,  false, false, true  => .instr (.wrYk data)
  | true,  false, true,  false => .instr (.wrExp data)
  | true,  false, true,  true  => .instr (.wrEnable data)
  | true,  true,  false, false => .instr (.wrDone data)
  | false, true,  false, true  => .instr (.rdResult data)
  | false, true,  true,  false => .instr .rdValid
  | false, true,  true,  true  => .instr .rdBusy
  | false, false, _,     _     => .reserved c
  | false, true,  false, false => .reserved c
  | true,  true,  false, true  => .reserved c
  | true,  true,  true,  _     => .reserved c

/-- The register index at a physical address: the first one `CSR_ADDR` puts there (R59; log entry 14). -/
def csrIndexAt (cfg : Config) (addr : Nat) : Option Nat := cfg.csrAddr.toList.findIdx? (· == addr)

/-- Decoding, total on every code (R79, R81). -/
def decode (cfg : Config) : Code → Decoded
  | .exp3 e base => .instr (instrOfPow base (decodeExp3 e))
  | .acpt3 w     => .instr (instrOfAcpt (decodeAcpt3 w))
  | .drn2 w      => .instr (instrOfDrn (decodeDrn2 w))
  | .ctrl4 w     => .instr (instrOfCtrl (decodeCtrl4 w))
  | .comb f      => .instr (instrOfComb f)
  | .tick w      => .instr (.tick (unpackTick w))
  | .regs w      => .instr (.regs (unpackRegs w))
  | .csr c data  => decodeCsr c data
  | .bus write addr data =>
    match csrIndexAt cfg addr with
    | some idx => decodeCsr (BitVec.ofBool write ++ BitVec.ofNat 3 idx) data
    | none     => .unmapped addr

/-! ### The encoder -/

/-- The code of an instruction, from the same tables (R71 to R78). -/
def encode : Instr → Code
  | .pow0 base        => .exp3 0b000 base
  | .pow1 base        => .exp3 0b001 base
  | .pow2 base        => .exp3 0b010 base
  | .pow3 base        => .exp3 0b011 base
  | .pow4 base        => .exp3 0b100 base
  | .powSent5 base    => .exp3 0b101 base
  | .powSent6 base    => .exp3 0b110 base
  | .powSent7 base    => .exp3 0b111 base
  | .noWrite bz c15   => .acpt3 (bits3 false bz c15)
  | .dropWrite c15    => .acpt3 (bits3 true true c15)
  | .acceptWrite      => .acpt3 0b100
  | .acceptLast       => .acpt3 0b101
  | .drain            => .drn2 0b10
  | .noDrain p        => .drn2 (bits2 false p)
  | .noDrainHeld      => .drn2 0b11
  | .acc de fp dl     => .ctrl4 (bits4 true de fp dl)
  | .flushStart fp dl => .ctrl4 (bits4 false true fp dl)
  | .flushDone dl     => .ctrl4 (bits4 false false true dl)
  | .validClear       => .ctrl4 0b0000
  | .validHold        => .ctrl4 0b0001
  | .mul a b          => .comb (.mul a b)
  | .lane b i e       => .comb (.lane b i e)
  | .tree p           => .comb (.tree p)
  | .bankSum b e      => .comb (.bankSum b e)
  | .busy             => .comb .busy
  | .pulse            => .comb .pulse
  | .tick inp         => .tick (packTick inp)
  | .regs lv          => .regs (packRegs lv)
  | .wrXk v           => .csr 0b1000 v
  | .wrYk v           => .csr 0b1001 v
  | .wrExp v          => .csr 0b1010 v
  | .wrEnable v       => .csr 0b1011 v
  | .wrDone v         => .csr 0b1100 v
  | .rdResult part    => .csr 0b0101 part
  | .rdValid          => .csr 0b0110 0
  | .rdBusy           => .csr 0b0111 0

/-! ### The opcode table (R82) -/

/-- The eight formats of R70 and R78. -/
inductive Format where
  | exp3
  | acpt3
  | drn2
  | ctrl4
  | comb
  | tick
  | regs
  | csr
deriving DecidableEq, Repr

/-- One row of spec/opcode_table.json: its format and the bits its pattern fixes. -/
structure TableRow where
  format : Format
  mask   : Nat
  value  : Nat
deriving DecidableEq, Repr

/-- The row of an instruction, as spec/opcode_table.json gives it. -/
def tableRow : Instr → TableRow
  | .pow0 _         => ⟨.exp3, 0x7, 0x0⟩
  | .pow1 _         => ⟨.exp3, 0x7, 0x1⟩
  | .pow2 _         => ⟨.exp3, 0x7, 0x2⟩
  | .pow3 _         => ⟨.exp3, 0x7, 0x3⟩
  | .pow4 _         => ⟨.exp3, 0x7, 0x4⟩
  | .powSent5 _     => ⟨.exp3, 0x7, 0x5⟩
  | .powSent6 _     => ⟨.exp3, 0x7, 0x6⟩
  | .powSent7 _     => ⟨.exp3, 0x7, 0x7⟩
  | .noWrite _ _    => ⟨.acpt3, 0x4, 0x0⟩
  | .dropWrite _    => ⟨.acpt3, 0x6, 0x6⟩
  | .acceptWrite    => ⟨.acpt3, 0x7, 0x4⟩
  | .acceptLast     => ⟨.acpt3, 0x7, 0x5⟩
  | .drain          => ⟨.drn2, 0x3, 0x2⟩
  | .noDrain _      => ⟨.drn2, 0x2, 0x0⟩
  | .noDrainHeld    => ⟨.drn2, 0x3, 0x3⟩
  | .acc _ _ _      => ⟨.ctrl4, 0x8, 0x8⟩
  | .flushStart _ _ => ⟨.ctrl4, 0xc, 0x4⟩
  | .flushDone _    => ⟨.ctrl4, 0xe, 0x2⟩
  | .validClear     => ⟨.ctrl4, 0xf, 0x0⟩
  | .validHold      => ⟨.ctrl4, 0xf, 0x1⟩
  | .mul _ _        => ⟨.comb, 0x0, 0x0⟩
  | .lane _ _ _     => ⟨.comb, 0x0, 0x0⟩
  | .tree _         => ⟨.comb, 0x0, 0x0⟩
  | .bankSum _ _    => ⟨.comb, 0x0, 0x0⟩
  | .busy           => ⟨.comb, 0x0, 0x0⟩
  | .pulse          => ⟨.comb, 0x0, 0x0⟩
  | .tick _         => ⟨.tick, 0x0, 0x0⟩
  | .regs _         => ⟨.regs, 0x0, 0x0⟩
  | .wrXk _         => ⟨.csr, 0xf, 0x8⟩
  | .wrYk _         => ⟨.csr, 0xf, 0x9⟩
  | .wrExp _        => ⟨.csr, 0xf, 0xa⟩
  | .wrEnable _     => ⟨.csr, 0xf, 0xb⟩
  | .wrDone _       => ⟨.csr, 0xf, 0xc⟩
  | .rdResult _     => ⟨.csr, 0xf, 0x5⟩
  | .rdValid        => ⟨.csr, 0xf, 0x6⟩
  | .rdBusy         => ⟨.csr, 0xf, 0x7⟩

/-- The format of a code and its selector bits as one number. A bus access has the format CSR and no code of its own
until `CSR_ADDR` resolves it. -/
def codeBits : Code → Format × Nat
  | .exp3 e _    => (.exp3, e.toNat)
  | .acpt3 w     => (.acpt3, w.toNat)
  | .drn2 w      => (.drn2, w.toNat)
  | .ctrl4 w     => (.ctrl4, w.toNat)
  | .comb _      => (.comb, 0)
  | .tick w      => (.tick, w.toNat)
  | .regs w      => (.regs, w.toNat)
  | .csr c _     => (.csr, c.toNat)
  | .bus _ _ _   => (.csr, 0)

/-! ### A word without its format

R83 gives every format its own fixed width and no bit that names it, so a bare number does not say which format it is
in. These two read a bare number by its width alone (log entry 12). -/

/-- The code a bare word of `nbits` bits is read as. In one byte the exponent selector takes 0 to 4, where the
register-access code has no meaning, and the register-access code, the one format the host itself issues, the rest. -/
def tableCode (nbits w : Nat) : Option Code :=
  if w < 2 ^ nbits then
    match nbits with
    | 0  => some (.comb (.mul 0 0))
    | 2  => some (.drn2 (BitVec.ofNat 2 w))
    | 3  => some (.exp3 (BitVec.ofNat 3 w) 0)
    | 4  => some (.csr (BitVec.ofNat 4 w) 0)
    | 8  => if w < 5 then some (.exp3 (BitVec.ofNat 3 w) 0)
            else if w < 16 then some (.csr (BitVec.ofNat 4 w) 0) else none
    | 69 => some (.regs (BitVec.ofNat 69 w))
    | 70 => some (.tick (BitVec.ofNat 70 w))
    | 72 => if w < 2 ^ 70 then some (.tick (BitVec.ofNat 70 w)) else none
    | _  => none
  else none

/-- The code that is fetched for a bare word: a reserved code where the word is none of the table's. -/
def fetchedCode (nbits w : Nat) : Code := (tableCode nbits w).getD (.csr 0b0000 0)

/-- The instruction the decoder reads from a bare word, at the default parameters. -/
def decodeTableWord (nbits w : Nat) : Option Instr :=
  match tableCode nbits w with
  | some c =>
    match decode Config.default c with
    | .instr i => some i
    | _        => none
  | none   => none

end Sys2Proof
end

