-- ==== Sys2Proof/Machine/State.lean ====
section
/-! DEFINITION. The state of the core (10_state.md R20 to R31), the register layer's own state that R188 needs, the
parameters of R6 as a field nothing writes, and the model's own fields; the reasons a step can stop; the state after
reset (R40, R220). -/

namespace Sys2Proof.Machine

/-- The unsettled ticks of R197. -/
inductive Unsettled where
  /-- a done pulse in a tick that drains -/
  | u1
  /-- a done pulse in an ACC tick -/
  | u2
  /-- a pair accepted in the FLUSH_START tick -/
  | u3
  /-- a pair accepted in the FLUSH_DONE tick -/
  | u4
  /-- a second done pulse during a flush -/
  | u5
deriving DecidableEq, Repr

/-- What a combinational function run alone last gave (log entry 5). -/
inductive Signal where
  | none
  /-- a value of at most 64 bits: a PowerUnit arm, a product, a lane, a tree or bank sum, `busy` -/
  | value (v : Word)
  /-- the input bundle that PULSE derived -/
  | bundle (inp : TickIn)
deriving DecidableEq, Repr

/-- Everything the spec gives the core, and what the model adds (INVENTORY.md, State). -/
structure State where
  /-- the parameters of R6; no step writes them -/
  cfg          : Config
  /-- model's own: what the host still presents, oldest first (log entry 1) -/
  events       : List Event
  /-- `X[0..31]` (R20) -/
  x            : Vector Sample 32
  /-- `Y[0..31]` (R20) -/
  y            : Vector Sample 32
  /-- `write_cursor` (R21) -/
  writeCursor  : Cursor
  /-- `awb`, the active write bank (R22) -/
  awb          : Bank
  /-- `full[0..1]` (R23) -/
  full         : BankFlags
  /-- `processing[0..1]` (R24) -/
  processing   : BankFlags
  /-- `start_sum` (R25) -/
  startSum     : Bool
  /-- `flush_pending` (R26) -/
  flushPending : Bool
  /-- `accumulator` (R27) -/
  accumulator  : Word
  /-- `result` (R28) -/
  result       : Word
  /-- `valid` (R29) -/
  valid        : Bool
  /-- `enable_q` (R30) -/
  enableQ      : Bool
  /-- `done_q` (R30) -/
  doneQ        : Bool
  /-- register 0, `xk_val` (R31, R38) -/
  xkVal        : Sample
  /-- register 1, `yk_val` (R31, R38) -/
  ykVal        : Sample
  /-- register 2, `exp` (R31, R38) -/
  expReg       : Exponent
  /-- register 3, `enable` (R31, R38) -/
  enableReg    : Bool
  /-- register 4, `done` (R31, R38) -/
  doneReg      : Bool
  /-- under WRITE_STROBE, a host write to `enable` that no tick has seen yet (R188) -/
  enableStrobe : Bool
  /-- under WRITE_STROBE, a host write to `done` that no tick has seen yet (R188) -/
  doneStrobe   : Bool
  /-- model's own: the bus word the last host read returned (log entry 6) -/
  readData     : Word
  /-- model's own: what a combinational function run alone last gave (log entry 5) -/
  signal       : Signal
deriving DecidableEq, Repr

/-- "The core raises no exception. No tick faults, traps or stops" (R200): there is no fault (log entry 17). -/
inductive Fault where
deriving DecidableEq, Repr

/-- Why a step has no successor: the two refusals R200 allows, the reserved codes of R79 and the policy of R197, and
the name an arm without a meaning would give. Each is a refusal of the model, not behaviour of the core. -/
inductive Refusal where
  /-- Raised by an arm of exec that has no meaning yet; safe. No arm raises it. -/
  | notModelled (mnemonic : String)
  /-- Raised by fetching one of the eight reserved register codes, as R79 asks; safe. -/
  | reservedAccess (c : BitVec 4)
  /-- Raised by a tick that meets a predicate of R197 while UNSETTLED_POLICY is REFUSE; safe. -/
  | unsettledTick (u : Unsettled)
deriving DecidableEq, Repr

/-- `ResetState` (R40, R220): every state element and every host-written register is 0. The parameters and what the
host still presents are no state elements, so they are arguments (R222; log entry 15). -/
def State.initial (cfg : Config) (events : List Event) : State where
  cfg          := cfg
  events       := events
  x            := Vector.replicate 32 0
  y            := Vector.replicate 32 0
  writeCursor  := 0
  awb          := .zero
  full         := ⟨false, false⟩
  processing   := ⟨false, false⟩
  startSum     := false
  flushPending := false
  accumulator  := 0
  result       := 0
  valid        := false
  enableQ      := false
  doneQ        := false
  xkVal        := 0
  ykVal        := 0
  expReg       := 0
  enableReg    := false
  doneReg      := false
  enableStrobe := false
  doneStrobe   := false
  readData     := 0
  signal       := .none

/-- The machine right after reset (R40, R220), with the default parameters of R6 and nothing presented. -/
def State.reset : State := State.initial Config.default []

end Sys2Proof.Machine
end

