-- ==== Sys2Proof/Machine/Ops.lean ====
section
/-! DEFINITION. The named operations over the state: banks and slots (R20, R120), the sample arrays (R51), what a host
read returns and a combinational function gives, and how one rule of a tick runs alone. There is no exception to take
and none to return from (R200, R205, R206), so there is no operation for either. -/

namespace Sys2Proof.Machine

/-! ### Banks and slots -/

/-- `¬b`. -/
def otherBank : Bank → Bank
  | .zero => .one
  | .one  => .zero

/-- The bank's number, 0 or 1. -/
def bankNum : Bank → Nat
  | .zero => 0
  | .one  => 1

/-- Bit `b` of a flag pair. -/
def getFlag (f : BankFlags) : Bank → Bool
  | .zero => f.zero
  | .one  => f.one

/-- The flag pair with bit `b` written. -/
def setFlag (f : BankFlags) (b : Bank) (v : Bool) : BankFlags :=
  match b with
  | .zero => { f with zero := v }
  | .one  => { f with one := v }

/-- Index `16·b + i` of the sample arrays (R20, R80); it is always in range (R51). -/
def slot (b : Bank) (i : Cursor) : Slot :=
  ⟨16 * bankNum b + i.toNat, by have := i.isLt; cases b <;> simp only [bankNum] <;> omega⟩

/-- `db(s) = ¬s.awb`, the drain bank (R120). -/
def drainBank (s : State) : Bank := otherBank s.awb

/-! ### The sample arrays (R20, R51) -/

/-- `X[k]`. -/
def xAt (s : State) (k : Slot) : Sample := s.x[k]

/-- `Y[k]`. -/
def yAt (s : State) (k : Slot) : Sample := s.y[k]

/-- `MemWrite(k, 1, (xv, yv))` on the next state: `X'[k] <- xv; Y'[k] <- yv` (R9, R51). -/
def storePair (k : Slot) (xv yv : Sample) (n : State) : State :=
  { n with x := n.x.set k xv, y := n.y.set k yv }

/-- `for i in 0..15: Y'[16·b + i] <- 0` on the next state (R160). -/
def zeroBankY (b : Bank) (n : State) : State :=
  { n with y := n.y.mapIdx fun k v => if k / 16 = bankNum b then 0 else v }

/-! ### What leaves the core -/

/-- What a combinational function run alone gives (R75; log entry 5). -/
def present (v : Word) (s : State) : State := { s with signal := .value v }

/-- What a host read returns; the read changes nothing else (R32, R58; log entry 6). -/
def returnData (v : Word) (s : State) : State := { s with readData := v }

/-- A one-bit value, zero-extended (R195, R196). -/
def bitWord (b : Bool) : Word := if b then 1 else 0

/-! ### One rule alone -/

/-- A selector row run alone: the tick selects it only where its condition holds, and a row that is not selected
writes nothing (R81, R181; log entry 4). -/
def fireRow (selected : Bool) (writes : State → State) (s : State) : Host.Outcome State Fault Refusal :=
  .next (if selected then writes s else s)

end Sys2Proof.Machine
end

