-- ==== Sys2Proof/Machine/Operands.lean ====
section
/-! DEFINITION. Every operand form: the lane's zero-extended samples (R80), the levels of the host-written registers
(R31), the input bundle that PULSE derives from them (R188), the input of a rule run alone, the value a register write
keeps of its data word (R189 to R193), and the bus words of `result` (R54, R194). -/

namespace Sys2Proof.Machine

/-! ### Samples -/

/-- `base = zext_64(X[16·b+i])` (R80, R140). -/
def laneBase (s : State) (b : Bank) (i : Cursor) : Word := (xAt s (slot b i)).zeroExtend 64

/-- `yv = zext_64(Y[16·b+i])` (R80, R140). -/
def laneY (s : State) (b : Bank) (i : Cursor) : Word := (yAt s (slot b i)).zeroExtend 64

/-! ### Register levels and the input bundle -/

/-- The stored levels of the five host-written registers (R31). -/
def regLevels (s : State) : RegsIn where
  xkVal  := s.xkVal
  ykVal  := s.ykVal
  exp    := s.expReg
  enable := s.enableReg
  done   := s.doneReg

/-- R188: the TICK bundle the register levels make, under either `PULSE_SOURCE`. -/
def pulseBundle (s : State) (lv : RegsIn) : TickIn where
  xk      := lv.xkVal
  yk      := lv.ykVal
  exp     := lv.exp
  enRe    := match s.cfg.pulseSource with
    | .risingEdge  => lv.enable && !s.enableQ
    | .writeStrobe => s.enableStrobe
  doneRe  := match s.cfg.pulseSource with
    | .risingEdge  => lv.done && !s.doneQ
    | .writeStrobe => s.doneStrobe
  doneLvl := lv.done

/-- R188's writes: under RISING_EDGE the edge history takes the levels; under WRITE_STROBE there is no history, and the
strobes have been seen. -/
def pulseWrites (s : State) (lv : RegsIn) (n : State) : State :=
  match s.cfg.pulseSource with
  | .risingEdge  => { n with enableQ := lv.enable, doneQ := lv.done }
  | .writeStrobe => { n with enableStrobe := false, doneStrobe := false }

/-- The input of a selector row run alone: `xk`, `yk` and `exp` at the levels of the registers (R31), and the pulse that
the row's own word says (R72, R74; log entry 4). No row's writes read `done_lvl`; the two rows whose condition does,
VALID_CLEAR and VALID_HOLD, take it from their word. -/
def rowInput (s : State) (enRe doneRe : Bool) : TickIn where
  xk      := s.xkVal
  yk      := s.ykVal
  exp     := s.expReg
  enRe    := enRe
  doneRe  := doneRe
  doneLvl := s.doneReg

/-! ### Data words -/

/-- `v mod 2^32` (R189, R190). -/
def sampleOf (v : Nat) : Sample := BitVec.ofNat 32 v

/-- `v mod 8` (R191). -/
def exponentOf (v : Nat) : Exponent := BitVec.ofNat 3 v

/-- `v mod 2` (R192, R193). -/
def bitOf (v : Nat) : Bool := v % 2 == 1

/-- The data word as the bus carries it: its low `BUS_WIDTH` bits, since a data word "has `BUS_WIDTH` bits"
(44_tick_and_interface.md section 3). DESIGN CHOICE for a number that is no such word (log entry 16). -/
def busData (cfg : Config) (v : Nat) : Nat := v % 2 ^ cfg.busWidth

/-- A host write to a register sets that register's strobe, which exists only under WRITE_STROBE (R188). -/
def strobeOf (cfg : Config) (before : Bool) : Bool :=
  match cfg.pulseSource with
  | .risingEdge  => before
  | .writeStrobe => true

/-- How many bus words `result` takes: 64 bits in words of `BUS_WIDTH` (R54). -/
def resultWords (cfg : Config) : Nat := (64 + cfg.busWidth - 1) / cfg.busWidth

/-- The number of a bus word of `result`, counted modulo how many there are, so that every number names one that
exists. DESIGN CHOICE (log entry 16). -/
def busPart (cfg : Config) (part : Nat) : Nat := part % resultWords cfg

/-- Which slice of `result`, counted from its lowest bits, bus word `part` holds (R54 `RESULT_WORD_ORDER`). -/
def resultSlice (cfg : Config) (part : Nat) : Nat :=
  match cfg.resultWordOrder with
  | .lowFirst  => part
  | .highFirst => resultWords cfg - 1 - part

/-- Bus word `part` of a published result (R54, R194). -/
def resultWord (cfg : Config) (r : Word) (part : Nat) : Word :=
  BitVec.ofNat 64 ((r.toNat >>> (resultSlice cfg part * cfg.busWidth)) % 2 ^ cfg.busWidth)

end Sys2Proof.Machine
end

