-- ==== Sys2Proof/Machine/Flags.lean ====
section
/-! DEFINITION. The one-bit signals of a tick (R33): `busy`, the three selector words a tick decodes (R72 to R74), the
accept and drain signals (R187), and the predicates of the unsettled ticks (R197). No arithmetic sets a flag (R37). -/

namespace Sys2Proof.Machine

/-- `busy(s) = s.processing[0] ∧ s.processing[1]` (R126). -/
def busy (s : State) : Bool := s.processing.zero && s.processing.one

/-- `s.write_cursor = 15` (R72). -/
def cursorLast (s : State) : Bool := s.writeCursor == 15

/-- The ACPT3 word of a tick, `{en, bz, c15}` (R72). -/
def acpt3Word (s : State) (inp : TickIn) : BitVec 3 := bits3 inp.enRe (busy s) (cursorLast s)

/-- The DRN2 word of a tick, `{s.full[db(s)], s.processing[db(s)]}` (R73). -/
def drn2Word (s : State) : BitVec 2 := bits2 (getFlag s.full (drainBank s)) (getFlag s.processing (drainBank s))

/-- The CTRL4 word of a tick, `{ss, de, fp, dl}` (R74). -/
def ctrl4Word (s : State) (inp : TickIn) : BitVec 4 := bits4 s.startSum inp.doneRe s.flushPending inp.doneLvl

/-- The accept signal `acpt` of R187. -/
def acceptSignal (s : State) (inp : TickIn) : Bool := inp.enRe && !busy s

/-- The drain signal `drain` of R187. -/
def drainSignal (s : State) : Bool := getFlag s.full (drainBank s) && !getFlag s.processing (drainBank s)

/-- The predicates of R197's table. -/
def isUnsettled (s : State) (inp : TickIn) : Unsettled → Bool
  | .u1 => inp.doneRe && !s.startSum && drainSignal s
  | .u2 => inp.doneRe && s.startSum
  | .u3 => inp.doneRe && !s.startSum && acceptSignal s inp
  | .u4 => s.flushPending && !s.startSum && !inp.doneRe && acceptSignal s inp
  | .u5 => inp.doneRe && !s.startSum && s.flushPending

/-- The first unsettled case that holds of a tick, if one does (R197). -/
def unsettledCase (s : State) (inp : TickIn) : Option Unsettled :=
  [Unsettled.u1, .u2, .u3, .u4, .u5].find? (isUnsettled s inp)

end Sys2Proof.Machine
end

