-- ==== Sys2Proof/Machine/Power.lean ====
section
/-! DEFINITION. The PowerUnit and the Multiplier (40_power_multiply.md R100 to R109), and the meanings of the EXP3 rows
and of MUL. Both are pure functions: run alone, each only presents its value. -/

namespace Sys2Proof.Machine

/-- `Mul(a, b) = a *_64 b`, truncating silently (R108). -/
def mul (a b : Word) : Word := a * b

/-- The PowerUnit's second product, `x2 = Mul(base, base)` (R101). -/
def powX2 (base : Word) : Word := mul base base

/-- `x3 = Mul(x2, base)` (R101). -/
def powX3 (base : Word) : Word := mul (powX2 base) base

/-- `x4 = Mul(x2, x2)` (R101). -/
def powX4 (base : Word) : Word := mul (powX2 base) (powX2 base)

/-- `Pow(base, e)` over the parameter `SENTINEL` (R100). -/
def powUnit (sentinel base : Word) (e : Exponent) : Word :=
  match decodeExp3 e with
  | .pow0  => 1
  | .pow1  => base
  | .pow2  => powX2 base
  | .pow3  => powX3 base
  | .pow4  => powX4 base
  | .sent5 => sentinel
  | .sent6 => sentinel
  | .sent7 => sentinel

/-- POW_0 (R102): 1 for every base, 0 included. -/
def execPow0 (base : Word) (s : State) : Host.Outcome State Fault Refusal :=
  .next (present (powUnit s.cfg.sentinel base 0b000) s)

/-- POW_1 (R103). -/
def execPow1 (base : Word) (s : State) : Host.Outcome State Fault Refusal :=
  .next (present (powUnit s.cfg.sentinel base 0b001) s)

/-- POW_2 (R104). -/
def execPow2 (base : Word) (s : State) : Host.Outcome State Fault Refusal :=
  .next (present (powUnit s.cfg.sentinel base 0b010) s)

/-- POW_3 (R105). -/
def execPow3 (base : Word) (s : State) : Host.Outcome State Fault Refusal :=
  .next (present (powUnit s.cfg.sentinel base 0b011) s)

/-- POW_4 (R106). -/
def execPow4 (base : Word) (s : State) : Host.Outcome State Fault Refusal :=
  .next (present (powUnit s.cfg.sentinel base 0b100) s)

/-- POW_SENT5 (R107): the sentinel, as ordinary data. -/
def execPowSent5 (base : Word) (s : State) : Host.Outcome State Fault Refusal :=
  .next (present (powUnit s.cfg.sentinel base 0b101) s)

/-- POW_SENT6 (R107). -/
def execPowSent6 (base : Word) (s : State) : Host.Outcome State Fault Refusal :=
  .next (present (powUnit s.cfg.sentinel base 0b110) s)

/-- POW_SENT7 (R107). -/
def execPowSent7 (base : Word) (s : State) : Host.Outcome State Fault Refusal :=
  .next (present (powUnit s.cfg.sentinel base 0b111) s)

/-- MUL (R108). -/
def execMul (a b : Word) (s : State) : Host.Outcome State Fault Refusal :=
  .next (present (mul a b) s)

end Sys2Proof.Machine
end

