-- ==== Sys2Proof/Machine/Lanes.lean ====
section
/-! DEFINITION. The power-multiply array and the reduction tree (42_array_tree.md R140 to R146), and the meanings of
LANE, TREE and BANK_SUM. All are pure functions of the current state (R146). -/

namespace Sys2Proof.Machine

/-- `Lane(s, b, i, e)` (R140). -/
def lane (s : State) (b : Bank) (i : Cursor) (e : Exponent) : Word :=
  mul (powUnit s.cfg.sentinel (laneBase s b i) e) (laneY s b i)

/-- One level of 64-bit adders: element j is the sum of elements 2j and 2j+1 of the level before (R141, D14). -/
def adderLevel (p : Nat → Word) : Nat → Word := fun j => p (2 * j) + p (2 * j + 1)

/-- `Tree(p0..p15)`: four levels, 16→8→4→2→1 (R141). -/
def tree (p : Nat → Word) : Word := adderLevel (adderLevel (adderLevel (adderLevel p))) 0

/-- `BankSum(s, b, e) = Tree(Lane(s,b,0,e), …, Lane(s,b,15,e))` (R143). -/
def bankSum (s : State) (b : Bank) (e : Exponent) : Word := tree fun i => lane s b (BitVec.ofNat 4 i) e

/-- LANE (R140). -/
def execLane (b : Bank) (i : Cursor) (e : Exponent) (s : State) : Host.Outcome State Fault Refusal :=
  .next (present (lane s b i e) s)

/-- TREE (R141), over its 16 operands. -/
def execTree (p : Vector Word 16) (s : State) : Host.Outcome State Fault Refusal :=
  .next (present (tree fun i => p[i]?.getD 0) s)

/-- BANK_SUM (R143). -/
def execBankSum (b : Bank) (e : Exponent) (s : State) : Host.Outcome State Fault Refusal :=
  .next (present (bankSum s b e) s)

end Sys2Proof.Machine
end

