-- ==== Sys2Proof/Machine/Collector.lean ====
section
/-! DEFINITION. The collector and the bank scheduler (41_collector_scheduler.md R120 to R127). Each rule's writes are a
function of the current state `s`, the input bundle and the next state `n` under construction (R8: every right-hand
side reads `s`, every write goes to `n`), which a tick composes (Machine/Tick.lean) and the row run alone applies to
`s` itself. -/

namespace Sys2Proof.Machine

/-! ### The write path -/

/-- ACCEPT_WRITE's writes (R121). -/
def acceptWriteWrites (s : State) (inp : TickIn) (n : State) : State :=
  { storePair (slot s.awb s.writeCursor) inp.xk inp.yk n with writeCursor := s.writeCursor + 1 }

/-- ACCEPT_LAST's writes (R122); its condition has `s.write_cursor` = 15. -/
def acceptLastWrites (s : State) (inp : TickIn) (n : State) : State :=
  { storePair (slot s.awb 15) inp.xk inp.yk n with
    full        := setFlag n.full s.awb true
    awb         := otherBank s.awb
    writeCursor := 0 }

/-- DROP_WRITE's writes: none (R123). -/
def dropWriteWrites (n : State) : State := n

/-- NO_WRITE's writes: none (R127). -/
def noWriteWrites (n : State) : State := n

/-- The writes of the row the ACPT3 word selects (R72, R181). -/
def writePath (s : State) (inp : TickIn) (n : State) : State :=
  match decodeAcpt3 (acpt3Word s inp) with
  | .noWrite _ _ => noWriteWrites n
  | .dropWrite _ => dropWriteWrites n
  | .acceptWrite => acceptWriteWrites s inp n
  | .acceptLast  => acceptLastWrites s inp n

/-- NO_WRITE alone (R127). -/
def execNoWrite (_bz _c15 : Bool) (s : State) : Host.Outcome State Fault Refusal :=
  fireRow true noWriteWrites s

/-- DROP_WRITE alone (R123): selected where `busy(s)` = 1. -/
def execDropWrite (_c15 : Bool) (s : State) : Host.Outcome State Fault Refusal :=
  fireRow (busy s) dropWriteWrites s

/-- ACCEPT_WRITE alone (R121): selected where `busy(s)` = 0 and `s.write_cursor` ≠ 15. -/
def execAcceptWrite (s : State) : Host.Outcome State Fault Refusal :=
  fireRow (!busy s && !cursorLast s) (acceptWriteWrites s (rowInput s true false)) s

/-- ACCEPT_LAST alone (R122): selected where `busy(s)` = 0 and `s.write_cursor` = 15. -/
def execAcceptLast (s : State) : Host.Outcome State Fault Refusal :=
  fireRow (!busy s && cursorLast s) (acceptLastWrites s (rowInput s true false)) s

/-! ### The drain decision -/

/-- DRAIN's writes (R124). -/
def drainWrites (s : State) (n : State) : State :=
  { n with
    processing := setFlag n.processing (drainBank s) true
    full       := setFlag n.full (drainBank s) false
    startSum   := true }

/-- NO_DRAIN's writes (R125). -/
def noDrainWrites (n : State) : State := { n with startSum := false }

/-- NO_DRAIN_HELD's writes (R125). -/
def noDrainHeldWrites (n : State) : State := { n with startSum := false }

/-- The writes of the row the DRN2 word selects (R73, R181). -/
def drainPath (s : State) (n : State) : State :=
  match decodeDrn2 (drn2Word s) with
  | .drain       => drainWrites s n
  | .noDrain _   => noDrainWrites n
  | .noDrainHeld => noDrainHeldWrites n

/-- DRAIN alone (R124). -/
def execDrain (s : State) : Host.Outcome State Fault Refusal :=
  fireRow (drainSignal s) (drainWrites s) s

/-- NO_DRAIN alone (R125): selected where `s.full[db(s)]` = 0. -/
def execNoDrain (_p : Bool) (s : State) : Host.Outcome State Fault Refusal :=
  fireRow (!getFlag s.full (drainBank s)) noDrainWrites s

/-- NO_DRAIN_HELD alone (R125): selected where `s.full[db(s)]` = 1 and `s.processing[db(s)]` = 1. -/
def execNoDrainHeld (s : State) : Host.Outcome State Fault Refusal :=
  fireRow (getFlag s.full (drainBank s) && getFlag s.processing (drainBank s)) noDrainHeldWrites s

/-! ### Busy -/

/-- BUSY (R126). -/
def execBusy (s : State) : Host.Outcome State Fault Refusal :=
  .next (present (bitWord (busy s)) s)

end Sys2Proof.Machine
end

