-- ==== Sys2Proof/Machine/Flush.lean ====
section
/-! DEFINITION. Accumulation and the flush protocol (43_accumulate_flush.md R160 to R165): each branch's writes, in the
same form as Machine/Collector.lean's, and the meanings of the CTRL4 rows. -/

namespace Sys2Proof.Machine

/-- ACC's writes (R160): fold the drain bank in, zero its Y entries, clear its `processing` bit. -/
def accWrites (s : State) (inp : TickIn) (n : State) : State :=
  { zeroBankY (drainBank s) n with
    accumulator := s.accumulator + bankSum s (drainBank s) inp.exp
    processing  := setFlag n.processing (drainBank s) false }

/-- FLUSH_START's writes (R161). -/
def flushStartWrites (s : State) (n : State) : State :=
  { n with
    awb          := otherBank s.awb
    flushPending := true
    processing   := if s.cfg.flushMarksProcessing then setFlag n.processing s.awb true else n.processing }

/-- FLUSH_DONE's writes (R162): publish the total; the bank's Y entries stay (D16). -/
def flushDoneWrites (s : State) (inp : TickIn) (n : State) : State :=
  { n with
    result       := s.accumulator + bankSum s (drainBank s) inp.exp
    valid        := true
    accumulator  := 0
    processing   := ⟨false, false⟩
    writeCursor  := 0
    flushPending := false }

/-- VALID_CLEAR's writes (R163). -/
def validClearWrites (n : State) : State := { n with valid := false }

/-- VALID_HOLD's writes: none (R164). -/
def validHoldWrites (n : State) : State := n

/-- ACC alone (R160): selected where `s.start_sum` = 1. -/
def execAcc (_de _fp _dl : Bool) (s : State) : Host.Outcome State Fault Refusal :=
  fireRow s.startSum (accWrites s (rowInput s false false)) s

/-- FLUSH_START alone (R161): selected where `s.start_sum` = 0; its word `01--` says `in.done_re` = 1 (log entry 4). -/
def execFlushStart (_fp _dl : Bool) (s : State) : Host.Outcome State Fault Refusal :=
  fireRow (!s.startSum) (flushStartWrites s) s

/-- FLUSH_DONE alone (R162): selected where `s.start_sum` = 0 and `s.flush_pending` = 1; its word `001-` says
`in.done_re` = 0 (log entry 4). -/
def execFlushDone (_dl : Bool) (s : State) : Host.Outcome State Fault Refusal :=
  fireRow (!s.startSum && s.flushPending) (flushDoneWrites s (rowInput s false false)) s

/-- VALID_CLEAR alone (R163): selected where `s.start_sum` = 0 and `s.flush_pending` = 0. DESIGN CHOICE (log entry 4):
`in.done_re` = 0 and `in.done_lvl` = 0 are what its own word `0000` says, so the stored level of `done` is not tested. -/
def execValidClear (s : State) : Host.Outcome State Fault Refusal :=
  fireRow (!s.startSum && !s.flushPending) validClearWrites s

/-- VALID_HOLD alone (R164): selected where `s.start_sum` = 0 and `s.flush_pending` = 0. DESIGN CHOICE (log entry 4):
`in.done_re` = 0 and `in.done_lvl` = 1 are what its own word `0001` says, so the stored level of `done` is not tested. -/
def execValidHold (s : State) : Host.Outcome State Fault Refusal :=
  fireRow (!s.startSum && !s.flushPending) validHoldWrites s

end Sys2Proof.Machine
end

