-- ==== Sys2Proof/Machine/Tick.lean ====
section
/-! DEFINITION. One tick (44_tick_and_interface.md R180 to R188): the three selected rows compose on one next state, in
the order that settles the fields two rules may write (R183 to R185); PULSE; and the meanings of TICK, REGS and
PULSE. -/

namespace Sys2Proof.Machine

/-- The writes of the CTRL4 row a tick selects, but for FLUSH_DONE's, which come last (R165, R184). -/
def chainEarly (s : State) (inp : TickIn) (n : State) : State :=
  match decodeCtrl4 (ctrl4Word s inp) with
  | .acc _ _ _      => accWrites s inp n
  | .flushStart _ _ => flushStartWrites s n
  | .flushDone _    => n
  | .validClear     => validClearWrites n
  | .validHold      => validHoldWrites n

/-- FLUSH_DONE's writes, where the CTRL4 row a tick selects is FLUSH_DONE (R165, R184, R185). -/
def chainLate (s : State) (inp : TickIn) (n : State) : State :=
  match decodeCtrl4 (ctrl4Word s inp) with
  | .acc _ _ _      => n
  | .flushStart _ _ => n
  | .flushDone _    => flushDoneWrites s inp n
  | .validClear     => n
  | .validHold      => n

/-- R181: one ACPT3, one DRN2 and one CTRL4 row, each read against `s` and the bundle only, written to the next state
`n` in the order write path, ACC or FLUSH_START, drain decision, FLUSH_DONE (R184), so that FLUSH_DONE's cursor reset
comes after the increment (R185); both toggles of `awb` write the one other bank (R183). -/
def composeTick (s : State) (inp : TickIn) (n : State) : State :=
  chainLate s inp (drainPath s (chainEarly s inp (writePath s inp n)))

/-- `Step(s, in)` (R181, R187). -/
def tickStep (s : State) (inp : TickIn) : State := composeTick s inp s

/-- A tick, onto a next state that already holds PULSE's writes, or its refusal (R197). -/
def runTick (s : State) (inp : TickIn) (n : State) : Host.Outcome State Fault Refusal :=
  match s.cfg.unsettledPolicy, unsettledCase s inp with
  | .refuse, some u => .refused (.unsettledTick u)
  | _, _ => .next (composeTick s inp n)

/-- A tick whose input comes from register levels: PULSE, then the tick (R181 item 6, R188). -/
def runRegisterTick (s : State) (lv : RegsIn) : Host.Outcome State Fault Refusal :=
  runTick s (pulseBundle s lv) (pulseWrites s lv s)

/-- TICK (R76, R187): the bundle is the core's input, and the register layer is left as it is (log entry 8). -/
def execTick (inp : TickIn) (s : State) : Host.Outcome State Fault Refusal := runTick s inp s

/-- REGS (R77, R188): the levels of one tick. -/
def execRegs (lv : RegsIn) (s : State) : Host.Outcome State Fault Refusal := runRegisterTick s lv

/-- PULSE alone (R188): the bundle the stored levels make, and PULSE's own writes. DESIGN CHOICE (log entry 20): alone it
is no tick, yet it makes those writes, `enable_q` and `done_q` or the clearing of the strobes, so it consumes a pending
pulse that no tick has seen. -/
def execPulse (s : State) : Host.Outcome State Fault Refusal :=
  .next { pulseWrites s (regLevels s) s with signal := .bundle (pulseBundle s (regLevels s)) }

/-- A tick in which the host presents nothing: the stored levels are the input (R31, R63, R188). -/
def idleTick (s : State) : Host.Outcome State Fault Refusal := runRegisterTick s (regLevels s)

end Sys2Proof.Machine
end

