-- ==== Sys2Proof/Machine/HostAccess.lean ====
section
/-! DEFINITION. The host's register operations (44_tick_and_interface.md R189 to R196). An access takes no tick: a write
is seen from the next tick on and a read returns a value of the current state (R63, R240; log entry 7). -/

namespace Sys2Proof.Machine

/-- WR_XK: `xk_val <- v mod 2^32` (R189). -/
def execWrXk (v : Nat) (s : State) : Host.Outcome State Fault Refusal :=
  .next { s with xkVal := sampleOf v }

/-- WR_YK: `yk_val <- v mod 2^32` (R190). -/
def execWrYk (v : Nat) (s : State) : Host.Outcome State Fault Refusal :=
  .next { s with ykVal := sampleOf v }

/-- WR_EXP: `exp <- v mod 8` (R191). -/
def execWrExp (v : Nat) (s : State) : Host.Outcome State Fault Refusal :=
  .next { s with expReg := exponentOf v }

/-- WR_ENABLE: `enable <- v mod 2`, and the strobe of the write (R192, R188). -/
def execWrEnable (v : Nat) (s : State) : Host.Outcome State Fault Refusal :=
  .next { s with enableReg := bitOf v, enableStrobe := strobeOf s.cfg s.enableStrobe }

/-- WR_DONE: `done <- v mod 2`, and the strobe of the write (R193, R188). -/
def execWrDone (v : Nat) (s : State) : Host.Outcome State Fault Refusal :=
  .next { s with doneReg := bitOf v, doneStrobe := strobeOf s.cfg s.doneStrobe }

/-- RD_RESULT: bus word `part` of `s.result`, all of it where `BUS_WIDTH` is 64 or more (R194, R54). -/
def execRdResult (part : Nat) (s : State) : Host.Outcome State Fault Refusal :=
  .next (returnData (resultWord s.cfg s.result part) s)

/-- RD_VALID: `s.valid`, zero-extended (R195). -/
def execRdValid (s : State) : Host.Outcome State Fault Refusal :=
  .next (returnData (bitWord s.valid) s)

/-- RD_BUSY: `busy(s)`, zero-extended (R196). -/
def execRdBusy (s : State) : Host.Outcome State Fault Refusal :=
  .next (returnData (bitWord (busy s)) s)

end Sys2Proof.Machine
end

