-- ==== Sys2Proof/Machine/Fetch.lean ====
section
/-! DEFINITION. What the machine does next: the host's next event, decoded (log entry 1). A core without a
program fetches nothing (R36, R65); the host's events stand where a program would. -/

namespace Sys2Proof.Machine

/-- What the next step does. -/
inductive Fetched where
  /-- a tick in which the host presents nothing -/
  | idle (t : State)
  /-- run an instruction -/
  | run (i : Instr) (t : State)
  /-- an access that is not to the core -/
  | elsewhere (t : State)
  /-- the state is replaced by `ResetState` (R222) -/
  | replaced (t : State)
  /-- no step -/
  | refused (r : Refusal)
deriving DecidableEq, Repr

/-- The access as it reaches the core: a write's data word has `BUS_WIDTH` bits, and a read of `result` asks for a bus
word that exists (44_tick_and_interface.md section 3, R54, R194; log entry 16). Every other instruction is as it
stands. -/
def onBus (cfg : Config) : Instr → Instr
  | .pow0 base => .pow0 base
  | .pow1 base => .pow1 base
  | .pow2 base => .pow2 base
  | .pow3 base => .pow3 base
  | .pow4 base => .pow4 base
  | .powSent5 base => .powSent5 base
  | .powSent6 base => .powSent6 base
  | .powSent7 base => .powSent7 base
  | .noWrite bz c15 => .noWrite bz c15
  | .dropWrite c15 => .dropWrite c15
  | .acceptWrite => .acceptWrite
  | .acceptLast => .acceptLast
  | .drain => .drain
  | .noDrain p => .noDrain p
  | .noDrainHeld => .noDrainHeld
  | .acc de fp dl => .acc de fp dl
  | .flushStart fp dl => .flushStart fp dl
  | .flushDone dl => .flushDone dl
  | .validClear => .validClear
  | .validHold => .validHold
  | .mul a b => .mul a b
  | .lane b i e => .lane b i e
  | .tree p => .tree p
  | .bankSum b e => .bankSum b e
  | .busy => .busy
  | .pulse => .pulse
  | .tick inp => .tick inp
  | .regs lv => .regs lv
  | .wrXk v => .wrXk (busData cfg v)
  | .wrYk v => .wrYk (busData cfg v)
  | .wrExp v => .wrExp (busData cfg v)
  | .wrEnable v => .wrEnable (busData cfg v)
  | .wrDone v => .wrDone (busData cfg v)
  | .rdResult part => .rdResult (busPart cfg part)
  | .rdValid => .rdValid
  | .rdBusy => .rdBusy

/-- What a decoded code asks of the core. Only a reserved code is refused (R79, R200). An address that `CSR_ADDR` gives
to no register is no access to the core, so nothing of the core changes (R59, R65; log entry 14). -/
def fetchDecoded (d : Decoded) (t : State) : Fetched :=
  match d with
  | .instr i    => .run (onBus t.cfg i) t
  | .reserved c => .refused (.reservedAccess c)
  | .unmapped _ => .elsewhere t

/-- The next event, taken off the list. With none left the host presents nothing, and the core still ticks: "The core
never halts" (R198). -/
def fetch (s : State) : Fetched :=
  match s.events with
  | []              => .idle s
  | .idle :: rest   => .idle { s with events := rest }
  | .word c :: rest => fetchDecoded (decode s.cfg c) { s with events := rest }
  | .reset :: rest  => .replaced (State.initial s.cfg rest)

end Sys2Proof.Machine
end

