-- ==== Sys2Proof/Machine/Dispatch.lean ====
section
/-! DEFINITION. Dispatch: one arm per constructor of Instr, each one call of its meaning. -/

namespace Sys2Proof.Machine

def exec (i : Instr) (s : State) : Host.Outcome State Fault Refusal :=
  match i with
  | .pow0 base => Sys2Proof.Machine.execPow0 base s
  | .pow1 base => Sys2Proof.Machine.execPow1 base s
  | .pow2 base => Sys2Proof.Machine.execPow2 base s
  | .pow3 base => Sys2Proof.Machine.execPow3 base s
  | .pow4 base => Sys2Proof.Machine.execPow4 base s
  | .powSent5 base => Sys2Proof.Machine.execPowSent5 base s
  | .powSent6 base => Sys2Proof.Machine.execPowSent6 base s
  | .powSent7 base => Sys2Proof.Machine.execPowSent7 base s
  | .noWrite bz c15 => Sys2Proof.Machine.execNoWrite bz c15 s
  | .dropWrite c15 => Sys2Proof.Machine.execDropWrite c15 s
  | .acceptWrite => Sys2Proof.Machine.execAcceptWrite s
  | .acceptLast => Sys2Proof.Machine.execAcceptLast s
  | .drain => Sys2Proof.Machine.execDrain s
  | .noDrain p => Sys2Proof.Machine.execNoDrain p s
  | .noDrainHeld => Sys2Proof.Machine.execNoDrainHeld s
  | .acc de fp dl => Sys2Proof.Machine.execAcc de fp dl s
  | .flushStart fp dl => Sys2Proof.Machine.execFlushStart fp dl s
  | .flushDone dl => Sys2Proof.Machine.execFlushDone dl s
  | .validClear => Sys2Proof.Machine.execValidClear s
  | .validHold => Sys2Proof.Machine.execValidHold s
  | .mul a b => Sys2Proof.Machine.execMul a b s
  | .lane b k e => Sys2Proof.Machine.execLane b k e s
  | .tree p => Sys2Proof.Machine.execTree p s
  | .bankSum b e => Sys2Proof.Machine.execBankSum b e s
  | .busy => Sys2Proof.Machine.execBusy s
  | .pulse => Sys2Proof.Machine.execPulse s
  | .tick inp => Sys2Proof.Machine.execTick inp s
  | .regs lv => Sys2Proof.Machine.execRegs lv s
  | .wrXk v => Sys2Proof.Machine.execWrXk v s
  | .wrYk v => Sys2Proof.Machine.execWrYk v s
  | .wrExp v => Sys2Proof.Machine.execWrExp v s
  | .wrEnable v => Sys2Proof.Machine.execWrEnable v s
  | .wrDone v => Sys2Proof.Machine.execWrDone v s
  | .rdResult part => Sys2Proof.Machine.execRdResult part s
  | .rdValid => Sys2Proof.Machine.execRdValid s
  | .rdBusy => Sys2Proof.Machine.execRdBusy s

end Sys2Proof.Machine
end

