-- ==== Sys2Proof/Machine/Step.lean ====
section
/-! DEFINITION. One step: the host's next event, run. -/

namespace Sys2Proof.Machine

/-- One step of the machine. -/
def step (s : State) : Host.Outcome State Fault Refusal :=
  match fetch s with
  | .idle t      => idleTick t
  | .run i t     => exec i t
  | .elsewhere t => .next t
  | .replaced t  => .next t
  | .refused r   => .refused r

/-- `s` with a bare word presented as the host's next event (log entries 1 and 12). -/
def State.withFetchWord (s : State) (nbits w : Nat) : State :=
  { s with events := .word (fetchedCode nbits w) :: s.events }

end Sys2Proof.Machine
end

