-- ==== Sys2Proof/Machine/Script.lean ====
section
/-! DEFINITION. The tick script of 30_encoding.md R84: its lines, its four pseudo-instructions, and the TICK bundles
they stand for. -/

namespace Sys2Proof.Machine

/-- One `tick` line: the levels it writes, and its pulses (R84). -/
structure ScriptLine where
  xk   : Option Sample
  yk   : Option Sample
  exp  : Option Exponent
  lvl  : Option Bool
  en   : Bool
  done : Bool
deriving DecidableEq, Repr

/-- The levels a script carries from line to line (R84). -/
structure ScriptLevels where
  xk  : Sample
  yk  : Sample
  exp : Exponent
  lvl : Bool
deriving DecidableEq, Repr

/-- "each starts at 0" (R84). -/
def scriptStart : ScriptLevels := ⟨0, 0, 0, false⟩

/-- A level "keeps its value from the previous line unless the line writes it" (R84). -/
def lineLevels (lv : ScriptLevels) (l : ScriptLine) : ScriptLevels where
  xk  := l.xk.getD lv.xk
  yk  := l.yk.getD lv.yk
  exp := l.exp.getD lv.exp
  lvl := l.lvl.getD lv.lvl

/-- The TICK input of a line: its levels, and the pulses that are 1 on this line only (R84, R76). -/
def lineInput (lv : ScriptLevels) (l : ScriptLine) : TickIn where
  xk      := (lineLevels lv l).xk
  yk      := (lineLevels lv l).yk
  exp     := (lineLevels lv l).exp
  enRe    := l.en
  doneRe  := l.done
  doneLvl := (lineLevels lv l).lvl

/-- The TICK inputs of a script, from the levels it starts at (R84). -/
def assemble (lv : ScriptLevels) : List ScriptLine → List TickIn
  | []      => []
  | l :: ls => lineInput lv l :: assemble (lineLevels lv l) ls

/-- `tick` (R84). -/
def tickLine : ScriptLine := ⟨none, none, none, none, false, false⟩

/-- `pair X, Y` = `tick xk=X yk=Y en` (R84). -/
def pairLine (xv yv : Sample) : ScriptLine := ⟨some xv, some yv, none, none, true, false⟩

/-- `flush` = `tick lvl=1 done` (R84). -/
def flushLine : ScriptLine := ⟨none, none, none, some true, false, true⟩

/-- `release` = `tick lvl=0` (R84). -/
def releaseLine : ScriptLine := ⟨none, none, none, some false, false, false⟩

/-- `idle N` = N copies of `tick` (R84). -/
def idleLines (n : Nat) : List ScriptLine := List.replicate n tickLine

/-- A script as the events that present it, one TICK word a line. -/
def scriptEvents (ls : List ScriptLine) : List Event :=
  (assemble scriptStart ls).map fun inp => .word (.tick (packTick inp))

end Sys2Proof.Machine
end

