-- ==== Sys2Proof/Safety.lean ====
section
/-! DEFINITION. What claims are stated in: runs and what they observe (R198), the host's premises (R230 to R235, R238,
R239), the phases a core is in between ticks, the sum of a stream, and the gathered next-state function of R187.
Nothing here constrains the step (R199). -/

namespace Sys2Proof.Machine

/-! ### Runs (R198) -/

/-- `Step` applied to one input after another, whatever the policy says of the ticks (R187). Where no tick is refused it
is the end of the run, `runEnd`. -/
def runTicks (s : State) : List TickIn → State
  | []          => s
  | inp :: rest => runTicks (tickStep s inp) rest

/-- The state a tick leaves; none where the policy gives it no step (R197). -/
def tickNext (s : State) (inp : TickIn) : Option State :=
  match execTick inp s with
  | .next t    => some t
  | .fault _   => none
  | .refused _ => none

/-- The states s_0 to s_T of a run from `s`, the first being `s`; none where the run is refused (R198). The run of the
core is the one from `State.initial cfg events` (R220). -/
def runStates (s : State) : List TickIn → Option (List State)
  | []          => some [s]
  | inp :: rest => (tickNext s inp).bind fun t => (runStates t rest).map (s :: ·)

/-- The end state s_T of a run; "a refused run has no end state" (R198). -/
def runEnd (s : State) : List TickIn → Option State
  | []          => some s
  | inp :: rest => (tickNext s inp).bind fun t => runEnd t rest

/-- What a host sees of a state (R198). -/
structure Observation where
  result : Word
  valid  : Bool
  busy   : Bool
deriving DecidableEq, Repr

/-- The observation of a state (R32, R198). -/
def observe (s : State) : Observation := ⟨s.result, s.valid, busy s⟩

/-- The observation of a run: the trace of its states' status values, for t = 0 to T (R198). -/
def observeRun (s : State) (ins : List TickIn) : Option (List Observation) := (runStates s ins).map (·.map observe)

/-- No fold and no flush is in flight (R198). -/
def settled (s : State) : Prop := s.startSum = false ∧ s.flushPending = false

/-- A run is settled where its end state is; a refused run is not (R198). -/
def settledRun (s : State) (ins : List TickIn) : Prop := ∃ t, runEnd s ins = some t ∧ settled t

/-! ### Frames -/

/-- The state elements of 10_state.md section 1, but for the edge history, are the same. -/
def sameCore (s t : State) : Prop :=
  (∀ k, xAt t k = xAt s k) ∧ (∀ k, yAt t k = yAt s k) ∧ t.writeCursor = s.writeCursor ∧ t.awb = s.awb ∧
  t.full = s.full ∧ t.processing = s.processing ∧ t.startSum = s.startSum ∧ t.flushPending = s.flushPending ∧
  t.accumulator = s.accumulator ∧ t.result = s.result ∧ t.valid = s.valid

/-- The edge history (R30) and the strobes of the register layer are the same. -/
def samePulseState (s t : State) : Prop :=
  t.enableQ = s.enableQ ∧ t.doneQ = s.doneQ ∧ t.enableStrobe = s.enableStrobe ∧ t.doneStrobe = s.doneStrobe

/-- The five host-written registers (R31) are the same. -/
def sameHostRegisters (s t : State) : Prop :=
  t.xkVal = s.xkVal ∧ t.ykVal = s.ykVal ∧ t.expReg = s.expReg ∧ t.enableReg = s.enableReg ∧ t.doneReg = s.doneReg

/-- The parameters, the host's remaining events and what left the core are the same. -/
def sameSurroundings (s t : State) : Prop :=
  t.cfg = s.cfg ∧ t.events = s.events ∧ t.readData = s.readData ∧ t.signal = s.signal

/-- A tick has a step: the policy is REFERENCE, or no unsettled case holds of it (R197). -/
def tickRuns (s : State) (inp : TickIn) : Prop :=
  s.cfg.unsettledPolicy = .reference ∨ ∀ u, isUnsettled s inp u = false

/-! ### The host's premises (70_reset_and_hazards.md section 3) -/

/-- `P_busy` (R230). -/
def pBusy (s : State) (inp : TickIn) : Prop := inp.enRe = true → busy s = false

/-- `P_drain_done` (R231). -/
def pDrainDone (s : State) (inp : TickIn) : Prop := ¬(inp.doneRe = true ∧ drainSignal s = true)

/-- `P_ss_done` (R232). -/
def pSsDone (s : State) (inp : TickIn) : Prop := ¬(inp.doneRe = true ∧ s.startSum = true)

/-- `P_flush_window` (R233). -/
def pFlushWindow (s : State) (inp : TickIn) : Prop :=
  ¬(inp.doneRe = true ∧ acceptSignal s inp = true) ∧
  ¬(s.flushPending = true ∧ acceptSignal s inp = true) ∧
  ¬(inp.doneRe = true ∧ s.flushPending = true)

/-- The premises on one tick's timing, R230 to R233. -/
def hostPremises (s : State) (inp : TickIn) : Prop :=
  pBusy s inp ∧ pDrainDone s inp ∧ pSsDone s inp ∧ pFlushWindow s inp

/-- The tick takes the ACC branch (R160). -/
def isAccTick (s : State) : Bool := s.startSum

/-- The tick takes the FLUSH_DONE branch (R162): a flush completes (R198). -/
def isFlushDoneTick (s : State) (inp : TickIn) : Bool := !s.startSum && !inp.doneRe && s.flushPending

/-- The value published by the flush that completes at this tick, if one does: `result` of the next state (R198). -/
def publishedValue (s : State) (inp : TickIn) : Option Word :=
  if isFlushDoneTick s inp then (tickNext s inp).map (·.result) else none

/-- `P_exp_stable` (R234) of one tick, for the stream's exponent n. -/
def pExpStable (n : Exponent) (s : State) (inp : TickIn) : Prop :=
  isAccTick s = true ∨ isFlushDoneTick s inp = true → inp.exp = n

/-- `P_clean_partial` (R235) of one tick: a FLUSH_DONE tick finds Y = 0 from the cursor on. -/
def pCleanPartial (s : State) (inp : TickIn) : Prop :=
  isFlushDoneTick s inp = true → ∀ i : Cursor, s.writeCursor.toNat ≤ i.toNat → yAt s (slot (drainBank s) i) = 0

/-- The premises R230 to R235 at every tick of a run. -/
def premisesAlong (n : Exponent) : State → List TickIn → Prop
  | _, []          => True
  | s, inp :: rest =>
    hostPremises s inp ∧ pExpStable n s inp ∧ pCleanPartial s inp ∧ premisesAlong n (tickStep s inp) rest

/-- The premises R230 to R233 at every tick of a run. -/
def timingAlong : State → List TickIn → Prop
  | _, []          => True
  | s, inp :: rest => hostPremises s inp ∧ timingAlong (tickStep s inp) rest

/-- No tick of a run takes the FLUSH_DONE branch. -/
def noFlushDoneAlong : State → List TickIn → Prop
  | _, []          => True
  | s, inp :: rest => isFlushDoneTick s inp = false ∧ noFlushDoneAlong (tickStep s inp) rest

/-- The quiet window of R239 over an endless run: around every done pulse at D no pair is accepted at D−2, D−1, D or
D+1, and no done pulse arrives at D+1. -/
def quietWindows (st : Nat → State) (ins : Nat → TickIn) : Prop :=
  ∀ d, (ins d).doneRe = true →
    (∀ t, d ≤ t + 2 → t ≤ d + 1 → acceptSignal (st t) (ins t) = false) ∧ (ins (d + 1)).doneRe = false

/-! ### Reading the result (R57, R238) -/

/-- What happens while a host reads `result`: it asks for one bus word, it writes `done`, or a tick passes. -/
inductive ReadAction where
  | part (p : Nat)
  | writeDone (v : Nat)
  | tick (inp : TickIn)
deriving DecidableEq, Repr

/-- The state after one of them: RD_RESULT of the bus word (R194), WR_DONE (R193), or the tick (R187). -/
def readStep (s : State) : ReadAction → State
  | .part p      => returnData (resultWord s.cfg s.result p) s
  | .writeDone v => { s with doneReg := bitOf v, doneStrobe := strobeOf s.cfg s.doneStrobe }
  | .tick inp    => tickStep s inp

/-- The state after a reading. -/
def afterReading (s : State) : List ReadAction → State
  | []        => s
  | a :: rest => afterReading (readStep s a) rest

/-- The bus words a reading returns to the host, each with its number. -/
def wordsRead (s : State) : List ReadAction → List (Nat × Word)
  | []                   => []
  | .part p :: rest      => (p, (readStep s (.part p)).readData) :: wordsRead (readStep s (.part p)) rest
  | .writeDone v :: rest => wordsRead (readStep s (.writeDone v)) rest
  | .tick inp :: rest    => wordsRead (readStep s (.tick inp)) rest

/-- The reading asks for every bus word of `result`. -/
def readsEveryWord (cfg : Config) (acts : List ReadAction) : Prop := ∀ p, cfg.partExists p = true → .part p ∈ acts

/-- The number of the bus word that holds bit j of `result` (R54, `RESULT_WORD_ORDER`; log entry 6). -/
def wordOfBit (cfg : Config) (j : Nat) : Nat :=
  match cfg.resultWordOrder with
  | .lowFirst  => j / cfg.busWidth
  | .highFirst => 63 / cfg.busWidth - j / cfg.busWidth

/-- R238, first item: "the host reads `result` only while `valid` = 1". -/
def readsWhileValid (s : State) : List ReadAction → Prop
  | []                   => True
  | .part p :: rest      => s.valid = true ∧ readsWhileValid (readStep s (.part p)) rest
  | .writeDone v :: rest => readsWhileValid (readStep s (.writeDone v)) rest
  | .tick inp :: rest    => readsWhileValid (readStep s (.tick inp)) rest

/-- The action leaves the `done` level at 1: a write of `done` is of 1, and a tick sees 1. -/
def keepsDone : ReadAction → Bool
  | .part _      => true
  | .writeDone v => bitOf v
  | .tick inp    => inp.doneLvl

/-- No done pulse arrives in the action. -/
def noDonePulse : ReadAction → Bool
  | .part _      => true
  | .writeDone _ => true
  | .tick inp    => !inp.doneRe

/-- `P_read` (R238) of a reading, listed from the state its result was published in, or a later one, to the last word
asked for, where `lvl` is the `done` level the host holds at the start: `valid` is 1 at every read; the level is 1 at the
start and stays 1 to the end, at any `BUS_WIDTH`; and with more than one bus word no done pulse arrives. -/
def pRead (lvl : Bool) (s : State) (acts : List ReadAction) : Prop :=
  readsWhileValid s acts ∧ (lvl = true ∧ ∀ a ∈ acts, keepsDone a = true) ∧
  (s.cfg.busWidth < 64 → ∀ a ∈ acts, noDonePulse a = true)

/-! ### Phases

Between two ticks that meet the premises the core is in one of four phases (the argument of R236 and R237). -/

/-- Nothing is in flight. -/
def idlePhase (s : State) : Prop :=
  s.full = ⟨false, false⟩ ∧ s.processing = ⟨false, false⟩ ∧ s.startSum = false ∧ s.flushPending = false

/-- The tick after an ACCEPT_LAST: the drain bank is full. -/
def filledPhase (s : State) : Prop :=
  getFlag s.full (drainBank s) = true ∧ getFlag s.full s.awb = false ∧ s.processing = ⟨false, false⟩ ∧
  s.startSum = false ∧ s.flushPending = false ∧ s.writeCursor = 0

/-- The tick after a DRAIN: the drain bank is about to be folded. -/
def drainingPhase (s : State) : Prop :=
  s.full = ⟨false, false⟩ ∧ getFlag s.processing (drainBank s) = true ∧ getFlag s.processing s.awb = false ∧
  s.startSum = true ∧ s.flushPending = false ∧ s.writeCursor.toNat ≤ 1

/-- The tick after a FLUSH_START: the drain bank is about to be flushed. -/
def flushingPhase (s : State) : Prop :=
  s.full = ⟨false, false⟩ ∧ getFlag s.processing (drainBank s) = s.cfg.flushMarksProcessing ∧
  getFlag s.processing s.awb = false ∧ s.startSum = false ∧ s.flushPending = true

/-- One of the four. -/
def steadyPhase (s : State) : Prop := idlePhase s ∨ filledPhase s ∨ drainingPhase s ∨ flushingPhase s

/-- The first two of R34's invariants: at most one bank is `processing`, and no bank is both `full` and
`processing`. -/
def flagsExclusive (s : State) : Prop :=
  ¬(s.processing.zero = true ∧ s.processing.one = true) ∧
  ∀ b, ¬(getFlag s.full b = true ∧ getFlag s.processing b = true)

/-- An event that is not a selector row run alone: a whole tick, a register access, a reset, a function run alone. -/
def isHostEvent : Event → Bool
  | .word (.acpt3 _) => false
  | .word (.drn2 _)  => false
  | .word (.ctrl4 _) => false
  | _ => true

/-- Under REFUSE, with no selector row run alone to come, the core is in a steady phase. -/
def refusingSteady (s : State) : Prop :=
  s.cfg.unsettledPolicy = .refuse ∧ s.events.all isHostEvent = true ∧ steadyPhase s

/-- What exists of the pulse state follows `PULSE_SOURCE`: no edge history under WRITE_STROBE and no strobe under
RISING_EDGE (R30, R188). -/
def pulseStateFits (s : State) : Prop :=
  match s.cfg.pulseSource with
  | .risingEdge  => s.enableStrobe = false ∧ s.doneStrobe = false
  | .writeStrobe => s.enableQ = false ∧ s.doneQ = false

/-! ### The sum of a stream -/

/-- The pair a tick accepts, if it accepts one. -/
def acceptedPair (s : State) (inp : TickIn) : List (Sample × Sample) :=
  if acceptSignal s inp then [(inp.xk, inp.yk)] else []

/-- The pairs a run accepts, in order. -/
def acceptedPairs : State → List TickIn → List (Sample × Sample)
  | _, []          => []
  | s, inp :: rest => acceptedPair s inp ++ acceptedPairs (tickStep s inp) rest

/-- `Pow(x, n) · y` over the naturals, where x^n is the power for n ≤ 4 and `SENTINEL` for n ≥ 5 (R144). -/
def pairTerm (sentinel : Word) (n : Exponent) (p : Sample × Sample) : Nat :=
  (if n.toNat ≤ 4 then p.1.toNat ^ n.toNat else sentinel.toNat) * p.2.toNat

/-- `Σ x_k^n · y_k` mod 2^64 (R1, R144). -/
def streamSum (sentinel : Word) (n : Exponent) (ps : List (Sample × Sample)) : Word :=
  BitVec.ofNat 64 (ps.map (pairTerm sentinel n)).sum

/-- Where a stream starts: nothing in flight, an empty accumulator, slot 0 next (R234, R166 item 4). -/
def streamStart (s : State) : Prop := idlePhase s ∧ s.accumulator = 0 ∧ s.writeCursor = 0

/-! ### R187's gathered next-state function -/

/-- The branches of the control chain (R165). -/
inductive Branch where
  | acc
  | flushStart
  | flushDone
  | validClear
  | validHold
deriving DecidableEq, Repr

/-- The control chain's priority (R165). -/
def branch (s : State) (inp : TickIn) : Branch :=
  if s.startSum then .acc
  else if inp.doneRe then .flushStart
  else if s.flushPending then .flushDone
  else if !inp.doneLvl then .validClear
  else .validHold

/-- `Step(s, in)` as R187 gathers it, field by field. -/
def gatheredStep (s : State) (inp : TickIn) : State :=
  let bw := s.awb
  let bd := drainBank s
  let acpt := acceptSignal s inp
  let last := acpt && s.writeCursor == 15
  let drain := drainSignal s
  let br := branch s inp
  let sum := bankSum s bd inp.exp
  let p1 := if br = .acc then setFlag s.processing bd false else s.processing
  let p2 := if br = .flushStart ∧ s.cfg.flushMarksProcessing then setFlag p1 bw true else p1
  let p3 := if drain then setFlag p2 bd true else p2
  let f1 := if last then setFlag s.full bw true else s.full
  { s with
    x := Vector.ofFn fun k => if acpt ∧ k = slot bw s.writeCursor then inp.xk else xAt s k
    y := Vector.ofFn fun k =>
      if acpt ∧ k = slot bw s.writeCursor then inp.yk
      else if br = .acc ∧ k.val / 16 = bankNum bd then 0 else yAt s k
    writeCursor := if br = .flushDone then 0 else if acpt then s.writeCursor + 1 else s.writeCursor
    awb := if last ∨ br = .flushStart then otherBank s.awb else s.awb
    full := if drain then setFlag f1 bd false else f1
    processing := if br = .flushDone then ⟨false, false⟩ else p3
    startSum := drain
    flushPending := if br = .flushStart then true else if br = .flushDone then false else s.flushPending
    accumulator := if br = .acc then s.accumulator + sum else if br = .flushDone then 0 else s.accumulator
    result := if br = .flushDone then s.accumulator + sum else s.result
    valid := if br = .flushDone then true else if br = .validClear then false else s.valid }

end Sys2Proof.Machine
end

