-- ==== Sys2Proof/Certificates/Slice0/Obligations.lean ====
section
/-! DEFINITION. The statements for the provers. Each says of the model what a numbered rule of spec/ says of the core; a
statement that rests on a choice of the model's says so and names the log entry. -/

open Sys2Proof Sys2Proof.Machine

/-! ## Encoding and the step -/

/-- The host's next event, where it decodes to an instruction the host can present, is what the step runs, on the state
with that event taken off. An access that no bus of BUS_WIDTH bits carries as it stands is run as the bus cuts it: a
data word to its low BUS_WIDTH bits, the number of a bus word of `result` to one that exists. The list of events and
the cut are the model's choices (log entries 1 and 16). -/
def Obligations.StepRunsTheDecodedInstruction : Prop :=
  (∀ (s : State) (c : Code) (rest : List Event) (i : Instr),
    s.events = .word c :: rest → decode s.cfg c = .instr i → i.wellFormed s.cfg = true →
    step s = exec i { s with events := rest }) ∧
  (∀ (s : State) (c : Code) (rest : List Event) (i : Instr),
    s.events = .word c :: rest → decode s.cfg c = .instr i →
    step s = exec (onBus s.cfg i) { s with events := rest } ∧ (onBus s.cfg i).wellFormed s.cfg = true)

/-- With no event left, or where the host presents nothing, the core still ticks, on the stored register levels
(R31, R63, R198); a reset replaces the state (R222). The events are the model's choice (log entries 1 and 15). -/
def Obligations.StepTicksWhenTheHostIsIdle : Prop :=
  (∀ s : State, s.events = [] → step s = exec (.regs (regLevels s)) s) ∧
  (∀ (s : State) (rest : List Event), s.events = .idle :: rest →
    step s = exec (.regs (regLevels s)) { s with events := rest }) ∧
  (∀ (s : State) (rest : List Event), s.events = .reset :: rest → step s = .next (State.initial s.cfg rest))

/-- Some words, written out bit by bit from R71 to R78 and section 95, decode to what they stand for. -/
def Obligations.WrittenWordsDecode : Prop :=
  ∀ cfg : Config,
    decode cfg (.exp3 0b011 5) = .instr (.pow3 5) ∧
    decode cfg (.acpt3 0b101) = .instr .acceptLast ∧
    decode cfg (.drn2 0b10) = .instr .drain ∧
    decode cfg (.ctrl4 0b0010) = .instr (.flushDone false) ∧
    decode cfg (.tick 0x330000000300000002) = .instr (.tick ⟨2, 3, 3, false, true, true⟩) ∧
    decode cfg (.regs 0x120000000100000005) = .instr (.regs ⟨5, 1, 2, false, true⟩) ∧
    decode cfg (.csr 0b1010 3) = .instr (.wrExp 3)

/-- The tables of R71 to R74 and R78: what every selector word decodes to, and which signal each bit of a tick's
selector words is. The tables are the spec's decisions D21 (R71 to R74, R78), D4 (the order of CTRL4) and D17 (R78). -/
def Obligations.SelectorTablesDecode : Prop :=
  ∀ cfg : Config,
    (∀ base, decode cfg (.exp3 0b000 base) = .instr (.pow0 base) ∧ decode cfg (.exp3 0b001 base) = .instr (.pow1 base) ∧
      decode cfg (.exp3 0b010 base) = .instr (.pow2 base) ∧ decode cfg (.exp3 0b011 base) = .instr (.pow3 base) ∧
      decode cfg (.exp3 0b100 base) = .instr (.pow4 base) ∧ decode cfg (.exp3 0b101 base) = .instr (.powSent5 base) ∧
      decode cfg (.exp3 0b110 base) = .instr (.powSent6 base) ∧ decode cfg (.exp3 0b111 base) = .instr (.powSent7 base)) ∧
    (∀ w : BitVec 3, decode cfg (.acpt3 w) = .instr
      (if w.getLsbD 2 then if w.getLsbD 1 then .dropWrite (w.getLsbD 0) else if w.getLsbD 0 then .acceptLast
        else .acceptWrite else .noWrite (w.getLsbD 1) (w.getLsbD 0))) ∧
    (∀ w : BitVec 2, decode cfg (.drn2 w) = .instr
      (if w.getLsbD 1 then if w.getLsbD 0 then .noDrainHeld else .drain else .noDrain (w.getLsbD 0))) ∧
    (∀ w : BitVec 4, decode cfg (.ctrl4 w) = .instr
      (if w.getLsbD 3 then .acc (w.getLsbD 2) (w.getLsbD 1) (w.getLsbD 0)
       else if w.getLsbD 2 then .flushStart (w.getLsbD 1) (w.getLsbD 0)
       else if w.getLsbD 1 then .flushDone (w.getLsbD 0)
       else if w.getLsbD 0 then .validHold else .validClear)) ∧
    (∀ v, decode cfg (.csr 0b1000 v) = .instr (.wrXk v) ∧ decode cfg (.csr 0b1001 v) = .instr (.wrYk v) ∧
      decode cfg (.csr 0b1010 v) = .instr (.wrExp v) ∧ decode cfg (.csr 0b1011 v) = .instr (.wrEnable v) ∧
      decode cfg (.csr 0b1100 v) = .instr (.wrDone v) ∧ decode cfg (.csr 0b0101 v) = .instr (.rdResult v) ∧
      decode cfg (.csr 0b0110 v) = .instr .rdValid ∧ decode cfg (.csr 0b0111 v) = .instr .rdBusy) ∧
    (∀ (s : State) (inp : TickIn),
      ((acpt3Word s inp).getLsbD 2 = inp.enRe ∧ (acpt3Word s inp).getLsbD 1 = busy s ∧
        ((acpt3Word s inp).getLsbD 0 = true ↔ s.writeCursor = 15)) ∧
      ((drn2Word s).getLsbD 1 = getFlag s.full (drainBank s) ∧
        (drn2Word s).getLsbD 0 = getFlag s.processing (drainBank s)) ∧
      ((ctrl4Word s inp).getLsbD 3 = s.startSum ∧ (ctrl4Word s inp).getLsbD 2 = inp.doneRe ∧
        (ctrl4Word s inp).getLsbD 1 = s.flushPending ∧ (ctrl4Word s inp).getLsbD 0 = inp.doneLvl))

/-- Encoding loses nothing: every instruction, every operand at every value, decodes from its own code. -/
def Obligations.DecodeOfEncodeIsTheInstruction : Prop :=
  ∀ (cfg : Config) (i : Instr), decode cfg (encode i) = .instr i

/-- R76, R77 (the spec's own layouts, its decisions D21 and D2): the fields of the TICK and REGS bundles stand at their
bits, and every value is a legal bundle, whose fields packed again give it back. -/
def Obligations.BundleFieldsStandAtTheirBits : Prop :=
  (∀ (cfg : Config) (w : BitVec 70), ∃ inp : TickIn, decode cfg (.tick w) = .instr (.tick inp) ∧
    inp.xk.toNat = w.toNat % 2 ^ 32 ∧ inp.yk.toNat = w.toNat / 2 ^ 32 % 2 ^ 32 ∧
    inp.exp.toNat = w.toNat / 2 ^ 64 % 2 ^ 3 ∧ inp.enRe = w.toNat.testBit 67 ∧ inp.doneRe = w.toNat.testBit 68 ∧
    inp.doneLvl = w.toNat.testBit 69 ∧ packTick inp = w) ∧
  (∀ (cfg : Config) (w : BitVec 69), ∃ lv : RegsIn, decode cfg (.regs w) = .instr (.regs lv) ∧
    lv.xkVal.toNat = w.toNat % 2 ^ 32 ∧ lv.ykVal.toNat = w.toNat / 2 ^ 32 % 2 ^ 32 ∧
    lv.exp.toNat = w.toNat / 2 ^ 64 % 2 ^ 3 ∧ lv.enable = w.toNat.testBit 67 ∧ lv.done = w.toNat.testBit 68 ∧
    packRegs lv = w)

/-- R79 (the spec's decision D17): a register code is reserved exactly where it is 0000 to 0100 or 1101 to 1111, a step
that meets one is refused, and no word of any other format is reserved. -/
def Obligations.ReservedRegisterCodesAreRefused : Prop :=
  (∀ (cfg : Config) (c : BitVec 4) (data : Nat),
    decode cfg (.csr c data) = .reserved c ↔ c.toNat ≤ 4 ∨ 13 ≤ c.toNat) ∧
  (∀ (s : State) (c : BitVec 4) (data : Nat) (rest : List Event), s.events = .word (.csr c data) :: rest →
    c.toNat ≤ 4 ∨ 13 ≤ c.toNat → step s = .refused (.reservedAccess c)) ∧
  (∀ cfg : Config, (∀ e base, ∃ i, decode cfg (.exp3 e base) = .instr i) ∧ (∀ w, ∃ i, decode cfg (.acpt3 w) = .instr i) ∧
    (∀ w, ∃ i, decode cfg (.drn2 w) = .instr i) ∧ (∀ w, ∃ i, decode cfg (.ctrl4 w) = .instr i) ∧
    (∀ w, ∃ i, decode cfg (.tick w) = .instr i) ∧ (∀ w, ∃ i, decode cfg (.regs w) = .instr i))

/-- An access by physical address is the access to the first register `CSR_ADDR` puts there, and an address it puts no
register at is no access to the core, so the step changes nothing of it. `CSR_ADDR` is OPEN (R59); the reading is the
model's (log entry 14). -/
def Obligations.BusAddressResolvesToItsRegister : Prop :=
  (∀ (cfg : Config) (write : Bool) (addr data : Nat) (r : Fin 8), cfg.csrAddr[r] = addr →
    (∀ q : Fin 8, q < r → cfg.csrAddr[q] ≠ addr) →
    decode cfg (.bus write addr data) = decode cfg (.csr (BitVec.ofNat 4 (write.toNat * 8 + r.val)) data)) ∧
  (∀ (s : State) (write : Bool) (addr data : Nat) (rest : List Event), s.events = .word (.bus write addr data) :: rest →
    (∀ q : Fin 8, s.cfg.csrAddr[q] ≠ addr) → step s = .next { s with events := rest })

/-! ## PowerUnit, Multiplier, lanes and tree -/

/-- R102 to R106: the EXP3 words 000 to 100 decode to the arms POW_0 to POW_4, and each arm, for every base, gives 1,
the base, x2, x3, x4 and changes nothing else. That an arm runs alone over an explicit base and leaves its value in
`signal` is the model's choice (log entries 5 and 19). -/
def Obligations.PowArmsGiveTheirPower : Prop :=
  ∀ (base : Word) (s : State),
    (decode s.cfg (.exp3 0b000 base) = .instr (.pow0 base) ∧
      exec (.pow0 base) s = .next { s with signal := .value 1 }) ∧
    (decode s.cfg (.exp3 0b001 base) = .instr (.pow1 base) ∧
      exec (.pow1 base) s = .next { s with signal := .value base }) ∧
    (decode s.cfg (.exp3 0b010 base) = .instr (.pow2 base) ∧
      exec (.pow2 base) s = .next { s with signal := .value (base * base) }) ∧
    (decode s.cfg (.exp3 0b011 base) = .instr (.pow3 base) ∧
      exec (.pow3 base) s = .next { s with signal := .value (base * base * base) }) ∧
    (decode s.cfg (.exp3 0b100 base) = .instr (.pow4 base) ∧
      exec (.pow4 base) s = .next { s with signal := .value ((base * base) * (base * base)) })

/-- R107 (its width is the spec's decision D13): the EXP3 words 101, 110 and 111 give SENTINEL whatever the base is and
change nothing else; at the default, 0x7FC00000 zero-extended, its product with a sample never wraps. That an arm runs
alone over an explicit base and leaves its value in `signal` is the model's choice (log entries 5 and 19). -/
def Obligations.SentinelArmsGiveTheSentinel : Prop :=
  (∀ (base : Word) (s : State),
    (decode s.cfg (.exp3 0b101 base) = .instr (.powSent5 base) ∧
      exec (.powSent5 base) s = .next { s with signal := .value s.cfg.sentinel }) ∧
    (decode s.cfg (.exp3 0b110 base) = .instr (.powSent6 base) ∧
      exec (.powSent6 base) s = .next { s with signal := .value s.cfg.sentinel }) ∧
    (decode s.cfg (.exp3 0b111 base) = .instr (.powSent7 base) ∧
      exec (.powSent7 base) s = .next { s with signal := .value s.cfg.sentinel })) ∧
  Config.default.sentinel.toNat = 0x7FC00000 ∧
  ∀ y : Sample, (Config.default.sentinel * y.zeroExtend 64).toNat = 0x7FC00000 * y.toNat

/-- R101: the chained products are exact modulo 2^64, for every 64-bit base. -/
def Obligations.ChainedProductsAreExactPowers : Prop :=
  ∀ base : Word, powX2 base = base * base ∧ powX3 base = powX2 base * base ∧ powX4 base = powX2 base * powX2 base ∧
    (powX2 base).toNat = base.toNat ^ 2 % 2 ^ 64 ∧ (powX3 base).toNat = base.toNat ^ 3 % 2 ^ 64 ∧
    (powX4 base).toNat = base.toNat ^ 4 % 2 ^ 64

/-- R100: the PowerUnit computes base^e mod 2^64 for e ≤ 4 and the sentinel for e > 4. -/
def Obligations.PowerUnitComputesPowers : Prop :=
  ∀ (sentinel base : Word) (e : Exponent),
    (e.toNat ≤ 4 → (powUnit sentinel base e).toNat = base.toNat ^ e.toNat % 2 ^ 64) ∧
    (4 < e.toNat → powUnit sentinel base e = sentinel)

/-- R108: the Multiplier truncates the product to 64 bits and changes nothing else; it is commutative, and a zero
operand gives zero. That it runs alone over explicit operands and leaves its value in `signal` is the model's choice
(log entries 5 and 19). -/
def Obligations.MultiplierTruncates : Prop :=
  ∀ (a b : Word) (s : State),
    (∃ v : Word, exec (.mul a b) s = .next { s with signal := .value v } ∧ v.toNat = a.toNat * b.toNat % 2 ^ 64) ∧
    exec (.mul a b) s = exec (.mul b a) s ∧ exec (.mul a 0) s = .next { s with signal := .value 0 }

/-- R140 (the zero-extension is the spec's decision D30): a lane is the power of its zero-extended x times its
zero-extended y; a zero y gives zero at every exponent, exponent 0 gives y. That a lane runs alone, over operands of its
own, is the model's choice (log entries 5 and 19). -/
def Obligations.LaneIsPowerTimesSample : Prop :=
  ∀ (s : State) (b : Bank) (i : Cursor) (e : Exponent),
    exec (.lane b i e) s = .next { s with
      signal := .value (powUnit s.cfg.sentinel ((s.x[slot b i]).zeroExtend 64) e * (s.y[slot b i]).zeroExtend 64) } ∧
    (slot b i).val = 16 * bankNum b + i.toNat ∧
    (yAt s (slot b i) = 0 → exec (.lane b i e) s = .next { s with signal := .value 0 }) ∧
    exec (.lane b i 0) s = .next { s with signal := .value ((yAt s (slot b i)).zeroExtend 64) }

/-- R141 (pairing neighbours is the spec's decision D14): the tree adds neighbours in four levels, each sum modulo 2^64,
and changes nothing else. Where its value goes is the model's choice (log entry 5). -/
def Obligations.TreeAddsInFourLevels : Prop :=
  ∀ (p : Vector Word 16) (s : State), exec (.tree p) s = .next { s with
    signal := .value ((((p[0] + p[1]) + (p[2] + p[3])) + ((p[4] + p[5]) + (p[6] + p[7]))) +
     (((p[8] + p[9]) + (p[10] + p[11])) + ((p[12] + p[13]) + (p[14] + p[15])))) }

/-- R144, R143: the bank sum is the sum over the 16 slots of Pow(x, e)·y, taken over the naturals and reduced modulo
2^64; evaluating it changes nothing else. That it runs alone over an explicit bank and exponent and leaves its value in
`signal` is the model's choice (log entries 5 and 19). -/
def Obligations.BankSumIsTheSumModulo : Prop :=
  ∀ (s : State) (b : Bank) (e : Exponent), ∃ v : Word,
    exec (.bankSum b e) s = .next { s with signal := .value v } ∧
    v = tree (fun i => lane s b (BitVec.ofNat 4 i) e) ∧
    v.toNat = ((List.range 16).map fun i =>
      (powUnit s.cfg.sentinel ((xAt s (slot b (BitVec.ofNat 4 i))).zeroExtend 64) e).toNat *
        (yAt s (slot b (BitVec.ofNat 4 i))).toNat).sum % 2 ^ 64 ∧
    v.toNat = ((List.range 16).map fun i =>
      pairTerm s.cfg.sentinel e (xAt s (slot b (BitVec.ofNat 4 i)), yAt s (slot b (BitVec.ofNat 4 i)))).sum % 2 ^ 64

/-- R126 (combinational by the spec's decision D15): busy is 1 exactly where both banks are processing, as the function
and as the status register. Where the two values go is the model's choice (log entries 5 and 6). -/
def Obligations.BusyIsBothBanksProcessing : Prop :=
  ∀ s : State,
    (s.processing = ⟨true, true⟩ → exec .busy s = .next { s with signal := .value 1 } ∧
      exec .rdBusy s = .next { s with readData := 1 }) ∧
    (s.processing ≠ ⟨true, true⟩ → exec .busy s = .next { s with signal := .value 0 } ∧
      exec .rdBusy s = .next { s with readData := 0 })

/-! ## Selector rows run alone

That a selector word can be presented alone, with its sample and exponent levels from the registers and its pulses and
`done` level from the word, is the model's choice (log entry 4); what the row writes is the rule's. -/

/-- ACCEPT_WRITE and ACCEPT_LAST alone, where they are selected: the pair goes into its slot, the cursor and the bank
move as R121 and R122 say, and nothing else changes. -/
def Obligations.AcceptRowsStoreThePair : Prop :=
  ∀ s : State, busy s = false →
    (s.writeCursor ≠ 15 → ∃ t, exec .acceptWrite s = .next t ∧
      (∀ k, xAt t k = if k = slot s.awb s.writeCursor then s.xkVal else xAt s k) ∧
      (∀ k, yAt t k = if k = slot s.awb s.writeCursor then s.ykVal else yAt s k) ∧
      t.writeCursor.toNat = s.writeCursor.toNat + 1 ∧
      t = { s with x := t.x, y := t.y, writeCursor := t.writeCursor }) ∧
    (s.writeCursor = 15 → ∃ t, exec .acceptLast s = .next t ∧
      (∀ k, xAt t k = if k = slot s.awb 15 then s.xkVal else xAt s k) ∧
      (∀ k, yAt t k = if k = slot s.awb 15 then s.ykVal else yAt s k) ∧
      getFlag t.full s.awb = true ∧ getFlag t.full (otherBank s.awb) = getFlag s.full (otherBank s.awb) ∧
      t = { s with x := t.x, y := t.y, full := t.full, awb := otherBank s.awb, writeCursor := 0 })

/-- DROP_WRITE, NO_WRITE and VALID_HOLD alone write nothing (R123, R127, R164), in every state. -/
def Obligations.RowsWithoutWritesChangeNothing : Prop :=
  ∀ (s : State) (bz c15 : Bool), exec (.dropWrite c15) s = .next s ∧ exec (.noWrite bz c15) s = .next s ∧
    exec .validHold s = .next s

/-- DRAIN, NO_DRAIN and NO_DRAIN_HELD alone, where they are selected: the writes of R124 and R125 and no other. -/
def Obligations.DrainRowsMoveTheBankFlags : Prop :=
  ∀ s : State,
    (getFlag s.full (drainBank s) = true → getFlag s.processing (drainBank s) = false →
      exec .drain s = .next { s with
        processing := setFlag s.processing (drainBank s) true
        full := setFlag s.full (drainBank s) false
        startSum := true }) ∧
    (∀ p, getFlag s.full (drainBank s) = false → exec (.noDrain p) s = .next { s with startSum := false }) ∧
    (getFlag s.full (drainBank s) = true → getFlag s.processing (drainBank s) = true →
      exec .noDrainHeld s = .next { s with startSum := false })

/-- ACC alone, where it is selected: the fold, the zeroed Y entries of the drain bank, its cleared `processing` bit, and
nothing else (R160). -/
def Obligations.AccRowFoldsTheDrainBank : Prop :=
  ∀ (s : State) (de fp dl : Bool), s.startSum = true → ∃ t, exec (.acc de fp dl) s = .next t ∧
    t.accumulator = s.accumulator + bankSum s (drainBank s) s.expReg ∧
    (∀ b i, yAt t (slot b i) = if b = drainBank s then 0 else yAt s (slot b i)) ∧
    t = { s with
      y := t.y
      accumulator := t.accumulator
      processing := setFlag s.processing (drainBank s) false }

/-- FLUSH_START, FLUSH_DONE and VALID_CLEAR alone, where they are selected: the writes of R161, R162 and R163 (with
the spec's decisions D7, D11 and D16) and no other. -/
def Obligations.FlushRowsRunTheProtocol : Prop :=
  ∀ s : State, s.startSum = false →
    (∀ fp dl, exec (.flushStart fp dl) s = .next { s with
      awb := otherBank s.awb
      flushPending := true
      processing := if s.cfg.flushMarksProcessing then setFlag s.processing s.awb true else s.processing }) ∧
    (∀ dl, s.flushPending = true → exec (.flushDone dl) s = .next { s with
      result := s.accumulator + bankSum s (drainBank s) s.expReg
      valid := true
      accumulator := 0
      processing := ⟨false, false⟩
      writeCursor := 0
      flushPending := false }) ∧
    (s.flushPending = false → exec .validClear s = .next { s with valid := false })

/-- A row run alone in a state that would not select it writes nothing (the model's choice, log entry 4). -/
def Obligations.UnselectedRowsWriteNothing : Prop :=
  ∀ s : State,
    (busy s = true ∨ s.writeCursor = 15 → exec .acceptWrite s = .next s) ∧
    (busy s = true ∨ s.writeCursor ≠ 15 → exec .acceptLast s = .next s) ∧
    (drainSignal s = false → exec .drain s = .next s) ∧
    (∀ p, getFlag s.full (drainBank s) = true → exec (.noDrain p) s = .next s) ∧
    (getFlag s.full (drainBank s) = false ∨ getFlag s.processing (drainBank s) = false →
      exec .noDrainHeld s = .next s) ∧
    (∀ de fp dl, s.startSum = false → exec (.acc de fp dl) s = .next s) ∧
    (∀ fp dl, s.startSum = true → exec (.flushStart fp dl) s = .next s) ∧
    (∀ dl, s.startSum = true ∨ s.flushPending = false → exec (.flushDone dl) s = .next s) ∧
    (s.startSum = true ∨ s.flushPending = true → exec .validClear s = .next s)

/-! ## The tick -/

/-- R121: a tick with an accept pulse, `busy` = 0 and a cursor below 15 stores the pair at the cursor and moves the
cursor on, unless FLUSH_DONE resets it (R185, the spec's decision D9; log entry 18); the one other thing that can happen
to an array is ACC's zeroing, in the other bank. -/
def Obligations.TickStoresAnAcceptedPair : Prop :=
  ∀ (s : State) (inp : TickIn), tickRuns s inp → inp.enRe = true → busy s = false → s.writeCursor ≠ 15 →
    decodeAcpt3 (acpt3Word s inp) = .acceptWrite ∧
    ∃ t, exec (.tick inp) s = .next t ∧
      (∀ k, xAt t k = if k = slot s.awb s.writeCursor then inp.xk else xAt s k) ∧
      yAt t (slot s.awb s.writeCursor) = inp.yk ∧
      (∀ b i, slot b i ≠ slot s.awb s.writeCursor →
        yAt t (slot b i) = if s.startSum = true ∧ b = drainBank s then 0 else yAt s (slot b i)) ∧
      t.writeCursor.toNat = (if isFlushDoneTick s inp then 0 else s.writeCursor.toNat + 1) ∧
      getFlag t.full s.awb = getFlag s.full s.awb

/-- R122: a tick that accepts the 16th pair of a bank stores it in slot 15, marks the bank full, makes the other bank
the active one and restarts the cursor. That the other bank is active also where FLUSH_START fires in the same tick is
the single toggle of R183, the spec's decision D9 (log entry 18). -/
def Obligations.TickFillsABank : Prop :=
  ∀ (s : State) (inp : TickIn), tickRuns s inp → inp.enRe = true → busy s = false → s.writeCursor = 15 →
    decodeAcpt3 (acpt3Word s inp) = .acceptLast ∧
    ∃ t, exec (.tick inp) s = .next t ∧
      (∀ k, xAt t k = if k = slot s.awb 15 then inp.xk else xAt s k) ∧
      yAt t (slot s.awb 15) = inp.yk ∧
      (∀ b i, slot b i ≠ slot s.awb 15 →
        yAt t (slot b i) = if s.startSum = true ∧ b = drainBank s then 0 else yAt s (slot b i)) ∧
      getFlag t.full s.awb = true ∧ t.awb = otherBank s.awb ∧ t.writeCursor = 0

/-- R123, R127: without an accept pulse, or with one while `busy` = 1, nothing is stored: X keeps its entries, Y is
changed by ACC's zeroing only, and cursor, bank and the active bank's `full` bit move only as the flush protocol
says: ACC, FLUSH_START and FLUSH_DONE (R160 to R162) in the order of R165, the spec's decision D4 (log entry 18). The
drain bank's `full` bit is the drain decision's to move, and TickDrainsAFullBank and OtherWritesLandApart say how. -/
def Obligations.TickStoresNothingWithoutAnAcceptedPulse : Prop :=
  ∀ (s : State) (inp : TickIn), tickRuns s inp → inp.enRe = false ∨ busy s = true →
    (inp.enRe = true → ∃ c15, decodeAcpt3 (acpt3Word s inp) = .dropWrite c15) ∧
    (inp.enRe = false → ∃ bz c15, decodeAcpt3 (acpt3Word s inp) = .noWrite bz c15) ∧
    ∃ t, exec (.tick inp) s = .next t ∧ (∀ k, xAt t k = xAt s k) ∧
      (∀ b i, yAt t (slot b i) = if s.startSum = true ∧ b = drainBank s then 0 else yAt s (slot b i)) ∧
      t.writeCursor = (if isFlushDoneTick s inp then 0 else s.writeCursor) ∧
      t.awb = (if s.startSum = false ∧ inp.doneRe = true then otherBank s.awb else s.awb) ∧
      getFlag t.full s.awb = getFlag s.full s.awb

/-- R127: with no accept pulse the levels of `xk_val` and `yk_val` are ignored. -/
def Obligations.SampleLevelsAreIgnoredWithoutAPulse : Prop :=
  ∀ (s : State) (inp : TickIn) (xv yv : Sample), inp.enRe = false →
    exec (.tick { inp with xk := xv, yk := yv }) s = exec (.tick inp) s

/-- R124, R125: a tick drains exactly where the drain bank is full and not processing; then it takes the bank, clears
its `full` bit and raises `start_sum`, and in every other tick `start_sum` falls (the spec's decision D10) and that
`full` bit stays. FLUSH_DONE's clearing of `processing` takes precedence (the spec's decision D9). -/
def Obligations.TickDrainsAFullBank : Prop :=
  ∀ (s : State) (inp : TickIn), tickRuns s inp → ∃ t, exec (.tick inp) s = .next t ∧
    (getFlag s.full (drainBank s) = true ∧ getFlag s.processing (drainBank s) = false →
      decodeDrn2 (drn2Word s) = .drain ∧ t.startSum = true ∧ getFlag t.full (drainBank s) = false ∧
      getFlag t.processing (drainBank s) = !isFlushDoneTick s inp) ∧
    (¬(getFlag s.full (drainBank s) = true ∧ getFlag s.processing (drainBank s) = false) →
      (decodeDrn2 (drn2Word s) = .noDrainHeld ∨ ∃ p, decodeDrn2 (drn2Word s) = .noDrain p) ∧
      t.startSum = false ∧ getFlag t.full (drainBank s) = getFlag s.full (drainBank s))

/-- R165 (its order is the spec's decision D4): the control chain takes exactly one branch, by priority. -/
def Obligations.ControlChainPriority : Prop :=
  ∀ (s : State) (inp : TickIn),
    (s.startSum = true → ∃ de fp dl, decodeCtrl4 (ctrl4Word s inp) = .acc de fp dl) ∧
    (s.startSum = false → inp.doneRe = true → ∃ fp dl, decodeCtrl4 (ctrl4Word s inp) = .flushStart fp dl) ∧
    (s.startSum = false → inp.doneRe = false → s.flushPending = true →
      ∃ dl, decodeCtrl4 (ctrl4Word s inp) = .flushDone dl) ∧
    (s.startSum = false → inp.doneRe = false → s.flushPending = false → inp.doneLvl = false →
      decodeCtrl4 (ctrl4Word s inp) = .validClear) ∧
    (s.startSum = false → inp.doneRe = false → s.flushPending = false → inp.doneLvl = true →
      decodeCtrl4 (ctrl4Word s inp) = .validHold)

/-- R160: a tick with `start_sum` = 1 folds the drain bank into the accumulator at the tick's exponent, zeroes its Y
entries and clears its `processing` bit unless DRAIN takes the bank again (the spec's decision D9); `valid`, `result`
and `flush_pending` keep their values and a done pulse is lost (the spec's decision D6; log entry 18). -/
def Obligations.AccTickFoldsTheDrainBank : Prop :=
  ∀ (s : State) (inp : TickIn), tickRuns s inp → s.startSum = true → ∃ t, exec (.tick inp) s = .next t ∧
    t.accumulator = s.accumulator + bankSum s (drainBank s) inp.exp ∧
    (∀ i, yAt t (slot (drainBank s) i) = 0) ∧ (∀ i, xAt t (slot (drainBank s) i) = xAt s (slot (drainBank s) i)) ∧
    getFlag t.processing (drainBank s) = drainSignal s ∧ getFlag t.processing s.awb = getFlag s.processing s.awb ∧
    t.valid = s.valid ∧ t.result = s.result ∧ t.flushPending = s.flushPending

/-- R161 (marking the bank is the spec's decision D7): a done pulse in a tick with `start_sum` = 0 makes the other bank
active, raises `flush_pending` and, by the parameter, marks the bank that was filling; cursor, `valid`, `result` and
accumulator are not the chain's to change. -/
def Obligations.FlushStartTickSwitchesBanks : Prop :=
  ∀ (s : State) (inp : TickIn), tickRuns s inp → s.startSum = false → inp.doneRe = true →
    ∃ t, exec (.tick inp) s = .next t ∧ t.awb = otherBank s.awb ∧ t.flushPending = true ∧
      getFlag t.processing s.awb = (if s.cfg.flushMarksProcessing then true else getFlag s.processing s.awb) ∧
      t.valid = s.valid ∧ t.result = s.result ∧ t.accumulator = s.accumulator ∧
      (acceptSignal s inp = false → t.writeCursor = s.writeCursor)

/-- R162 (with the spec's decisions D5 and D16): a FLUSH_DONE tick publishes the accumulator plus the drain bank's sum,
raises `valid`, and clears the accumulator, both `processing` bits, the cursor and `flush_pending`; it zeroes no Y
entry, and it writes neither `full` nor `awb` (which only ACCEPT_LAST and DRAIN can still move in such a tick). -/
def Obligations.FlushDoneTickPublishes : Prop :=
  ∀ (s : State) (inp : TickIn), tickRuns s inp → s.startSum = false → inp.doneRe = false → s.flushPending = true →
    ∃ t, exec (.tick inp) s = .next t ∧ t.result = s.accumulator + bankSum s (drainBank s) inp.exp ∧
      t.valid = true ∧ t.accumulator = 0 ∧ t.processing = ⟨false, false⟩ ∧ t.writeCursor = 0 ∧
      t.flushPending = false ∧ (∀ i, yAt t (slot (drainBank s) i) = yAt s (slot (drainBank s) i)) ∧
      (acceptSignal s inp = false → t.awb = s.awb ∧ (drainSignal s = false → t.full = s.full))

/-- R163, R164 (the spec's decision D11): on an idle tick of the chain `valid` falls where the `done` level is 0 and
keeps its value where it is 1; `result`, the accumulator, `flush_pending` and the Y entries outside the accepted slot
keep theirs. -/
def Obligations.IdleTickClearsOrHoldsValid : Prop :=
  ∀ (s : State) (inp : TickIn), s.startSum = false → inp.doneRe = false → s.flushPending = false →
    ∃ t, exec (.tick inp) s = .next t ∧ t.valid = (if inp.doneLvl then s.valid else false) ∧
      t.result = s.result ∧ t.accumulator = s.accumulator ∧ t.flushPending = false ∧
      (acceptSignal s inp = false → ∀ k, yAt t k = yAt s k)

/-- R183, R184, R185 (the spec's decision D9): where two rules of one tick write one field. `awb` toggles once;
`processing` takes ACC's clear, FLUSH_START's set, DRAIN's set, FLUSH_DONE's clear, the last one winning; FLUSH_DONE's
cursor reset wins over the increment. -/
def Obligations.OverlappingWritesResolve : Prop :=
  ∀ (s : State) (inp : TickIn), tickRuns s inp → ∃ t, exec (.tick inp) s = .next t ∧
    t.awb = (if (acceptSignal s inp = true ∧ s.writeCursor = 15) ∨ (s.startSum = false ∧ inp.doneRe = true)
      then otherBank s.awb else s.awb) ∧
    (∀ b, getFlag t.processing b =
      if isFlushDoneTick s inp then false
      else if drainSignal s = true ∧ b = drainBank s then true
      else if s.startSum = false ∧ inp.doneRe = true ∧ s.cfg.flushMarksProcessing = true ∧ b = s.awb then true
      else if s.startSum = true ∧ b = drainBank s then false
      else getFlag s.processing b) ∧
    t.writeCursor.toNat = (if isFlushDoneTick s inp then 0
      else if acceptSignal s inp then (s.writeCursor.toNat + 1) % 16 else s.writeCursor.toNat)

/-- R186: every other write of a tick lands on its own field or element. That a TICK word leaves the edge history, the
strobes and the host's registers as they are is the model's reading (log entry 8, DEDUCED, unsafe in part): TICK is
the core's input itself and bypasses the register layer, while a tick that comes from register levels also updates the
edge history (R181 item 6). -/
def Obligations.OtherWritesLandApart : Prop :=
  ∀ (s : State) (inp : TickIn), tickRuns s inp → ∃ t, exec (.tick inp) s = .next t ∧
    (∀ i, slot s.awb s.writeCursor ≠ slot (drainBank s) i) ∧
    (∀ k, xAt t k = if acceptSignal s inp = true ∧ k = slot s.awb s.writeCursor then inp.xk else xAt s k) ∧
    (∀ b i, yAt t (slot b i) =
      if acceptSignal s inp = true ∧ slot b i = slot s.awb s.writeCursor then inp.yk
      else if s.startSum = true ∧ b = drainBank s then 0 else yAt s (slot b i)) ∧
    getFlag t.full s.awb = (if acceptSignal s inp = true ∧ s.writeCursor = 15 then true else getFlag s.full s.awb) ∧
    getFlag t.full (drainBank s) = (if drainSignal s then false else getFlag s.full (drainBank s)) ∧
    t.startSum = drainSignal s ∧
    t.flushPending = (if s.startSum = false ∧ inp.doneRe = true then true
      else if isFlushDoneTick s inp then false else s.flushPending) ∧
    t.accumulator = (if s.startSum then s.accumulator + bankSum s (drainBank s) inp.exp
      else if isFlushDoneTick s inp then 0 else s.accumulator) ∧
    t.result = (if isFlushDoneTick s inp then s.accumulator + bankSum s (drainBank s) inp.exp else s.result) ∧
    t.valid = (if isFlushDoneTick s inp then true
      else if s.startSum = false ∧ inp.doneRe = false ∧ inp.doneLvl = false then false else s.valid) ∧
    samePulseState s t ∧ sameHostRegisters s t ∧ sameSurroundings s t

/-- R187 (with the spec's decision D9): composing the three selected rows gives the gathered next-state function, from
every state and every input. -/
def Obligations.TickIsTheGatheredStep : Prop :=
  ∀ (s : State) (inp : TickIn), tickRuns s inp → exec (.tick inp) s = .next (gatheredStep s inp)

/-- R197, R198 (the spec's decisions D23 and D25): under REFUSE a tick has no step exactly where one of the five
predicates holds, and the refusal names one that does; under REFERENCE it runs like any other. So a run under REFERENCE
always has an end state, one under REFUSE has none exactly where it meets an unsettled tick, and the observation of a run
is the trace of the status values of the states it passes, one more than its inputs, and exists exactly where the end
state does. A completing flush publishes `result` of the next state, with `valid` = 1. -/
def Obligations.UnsettledTicksFollowThePolicy : Prop :=
  ∀ (s : State) (inp : TickIn),
    (isUnsettled s inp .u1 = true ↔ inp.doneRe = true ∧ s.startSum = false ∧ drainSignal s = true) ∧
    (isUnsettled s inp .u2 = true ↔ inp.doneRe = true ∧ s.startSum = true) ∧
    (isUnsettled s inp .u3 = true ↔ inp.doneRe = true ∧ s.startSum = false ∧ acceptSignal s inp = true) ∧
    (isUnsettled s inp .u4 = true ↔
      s.flushPending = true ∧ s.startSum = false ∧ inp.doneRe = false ∧ acceptSignal s inp = true) ∧
    (isUnsettled s inp .u5 = true ↔ inp.doneRe = true ∧ s.startSum = false ∧ s.flushPending = true) ∧
    (s.cfg.unsettledPolicy = .refuse → (∃ u, isUnsettled s inp u = true) →
      ∃ u, isUnsettled s inp u = true ∧ exec (.tick inp) s = .refused (.unsettledTick u)) ∧
    (s.cfg.unsettledPolicy = .refuse → (∀ u, isUnsettled s inp u = false) →
      exec (.tick inp) s = .next (tickStep s inp)) ∧
    (s.cfg.unsettledPolicy = .reference → exec (.tick inp) s = .next (tickStep s inp)) ∧
    (∀ v, publishedValue s inp = some v → isFlushDoneTick s inp = true ∧
      ∃ t, exec (.tick inp) s = .next t ∧ t.result = v ∧ t.valid = true) ∧
    ∀ ins : List TickIn,
      (s.cfg.unsettledPolicy = .reference → runEnd s ins = some (runTicks s ins)) ∧
      (s.cfg.unsettledPolicy = .refuse → (runEnd s ins = none ↔ ∃ body bad rest u, ins = body ++ bad :: rest ∧
        runEnd s body = some (runTicks s body) ∧ isUnsettled (runTicks s body) bad u = true)) ∧
      (∀ t, runEnd s ins = some t → t = runTicks s ins ∧ ∃ obs, observeRun s ins = some obs ∧
        obs.length = ins.length + 1 ∧ ∀ k, k ≤ ins.length → obs[k]? = some (observe (runTicks s (ins.take k)))) ∧
      (runEnd s ins = none → observeRun s ins = none)

/-! ## Pulses and the host's registers -/

/-- R188: the bundle PULSE derives and what it writes, under either PULSE_SOURCE. That PULSE runs alone, makes its writes
with no tick and so consumes a pending pulse is the model's choice (log entry 20); so are the strobe bits (log entry 10)
and where the bundle goes (log entry 5). -/
def Obligations.PulseDerivesTheBundle : Prop :=
  ∀ s : State,
    (s.cfg.pulseSource = .risingEdge → exec .pulse s = .next { s with
      enableQ := s.enableReg
      doneQ := s.doneReg
      signal := .bundle ⟨s.xkVal, s.ykVal, s.expReg, s.enableReg && !s.enableQ, s.doneReg && !s.doneQ, s.doneReg⟩ }) ∧
    (s.cfg.pulseSource = .writeStrobe → exec .pulse s = .next { s with
      enableStrobe := false
      doneStrobe := false
      signal := .bundle ⟨s.xkVal, s.ykVal, s.expReg, s.enableStrobe, s.doneStrobe, s.doneReg⟩ })

/-- R181 item 6, R188: a REGS word runs the tick of the bundle its levels make, and under RISING_EDGE the edge history
takes the levels. What it does under WRITE_STROBE is the model's choice (log entry 9). -/
def Obligations.RegsRunsThePulsedTick : Prop :=
  ∀ (s : State) (lv : RegsIn),
    (s.cfg.pulseSource = .risingEdge → ∀ inp : TickIn,
      inp = ⟨lv.xkVal, lv.ykVal, lv.exp, lv.enable && !s.enableQ, lv.done && !s.doneQ, lv.done⟩ →
      tickRuns s inp →
      exec (.regs lv) s = .next { tickStep s inp with enableQ := lv.enable, doneQ := lv.done }) ∧
    (s.cfg.pulseSource = .writeStrobe → ∀ inp : TickIn,
      inp = ⟨lv.xkVal, lv.ykVal, lv.exp, s.enableStrobe, s.doneStrobe, lv.done⟩ →
      tickRuns s inp →
      exec (.regs lv) s = .next { tickStep s inp with enableStrobe := false, doneStrobe := false })

/-- R188: a pulse is consumed once. Under RISING_EDGE a level that stays 1 pulses in its first tick only; under
WRITE_STROBE two writes before one tick make one pulse, whatever value was written, and the tick after has none. -/
def Obligations.PulsesAreConsumedOnce : Prop :=
  (∀ (s t : State) (lv lv' : RegsIn), s.cfg.pulseSource = .risingEdge → exec (.regs lv) s = .next t →
    (lv.enable = true → (pulseBundle t lv').enRe = false) ∧ (lv.done = true → (pulseBundle t lv').doneRe = false) ∧
    (lv.enable = false → (pulseBundle t lv').enRe = lv'.enable) ∧
    (lv.done = false → (pulseBundle t lv').doneRe = lv'.done)) ∧
  (∀ (s : State) (v w : Nat) (lv : RegsIn), s.cfg.pulseSource = .writeStrobe →
    ∃ t u, exec (.wrEnable v) s = .next t ∧ exec (.wrEnable w) t = .next u ∧ (pulseBundle u lv).enRe = true ∧
      ∀ a lv', exec (.regs lv) u = .next a → (pulseBundle a lv').enRe = false) ∧
  (∀ (s : State) (v w : Nat) (lv : RegsIn), s.cfg.pulseSource = .writeStrobe →
    ∃ t u, exec (.wrDone v) s = .next t ∧ exec (.wrDone w) t = .next u ∧ (pulseBundle u lv).doneRe = true ∧
      ∀ a lv', exec (.regs lv) u = .next a → (pulseBundle a lv').doneRe = false)

/-- R189 to R193 (the spec's decision D18): a write keeps the low bits of its data word in its own register and changes
nothing else, but for the strobe that R188 gives a write of `enable` or `done` under WRITE_STROBE. -/
def Obligations.RegisterWritesKeepTheLowBits : Prop :=
  ∀ (s : State) (v : Nat),
    (∃ r : Sample, r.toNat = v % 2 ^ 32 ∧ exec (.wrXk v) s = .next { s with xkVal := r }) ∧
    (∃ r : Sample, r.toNat = v % 2 ^ 32 ∧ exec (.wrYk v) s = .next { s with ykVal := r }) ∧
    (∃ r : Exponent, r.toNat = v % 8 ∧ exec (.wrExp v) s = .next { s with expReg := r }) ∧
    (∃ r : Bool, r.toNat = v % 2 ∧
      (s.cfg.pulseSource = .risingEdge → exec (.wrEnable v) s = .next { s with enableReg := r }) ∧
      (s.cfg.pulseSource = .writeStrobe →
        exec (.wrEnable v) s = .next { s with enableReg := r, enableStrobe := true })) ∧
    (∃ r : Bool, r.toNat = v % 2 ∧
      (s.cfg.pulseSource = .risingEdge → exec (.wrDone v) s = .next { s with doneReg := r }) ∧
      (s.cfg.pulseSource = .writeStrobe → exec (.wrDone v) s = .next { s with doneReg := r, doneStrobe := true }))

/-- (The spec's decision D28.) A level written is the level the next tick's input has (R63, R189 to R191), and a first
write of 1 to `enable` or `done` under RISING_EDGE pulses in it (R192, R193). -/
def Obligations.WrittenLevelsReachTheNextTick : Prop :=
  ∀ (s : State) (v : Nat),
    (∃ t, exec (.wrXk v) s = .next t ∧ (pulseBundle t (regLevels t)).xk.toNat = v % 2 ^ 32) ∧
    (∃ t, exec (.wrYk v) s = .next t ∧ (pulseBundle t (regLevels t)).yk.toNat = v % 2 ^ 32) ∧
    (∃ t, exec (.wrExp v) s = .next t ∧ (pulseBundle t (regLevels t)).exp.toNat = v % 8) ∧
    (s.cfg.pulseSource = .risingEdge → s.enableQ = false → v % 2 = 1 →
      ∃ t, exec (.wrEnable v) s = .next t ∧ (pulseBundle t (regLevels t)).enRe = true) ∧
    (s.cfg.pulseSource = .risingEdge → s.doneQ = false → v % 2 = 1 →
      ∃ t, exec (.wrDone v) s = .next t ∧ (pulseBundle t (regLevels t)).doneRe = true ∧
        (pulseBundle t (regLevels t)).doneLvl = true)

/-- R194, R195, R196, R32: a read returns `result`, `valid` or `busy` of the current state and changes nothing in the
core; `result` is read whole where BUS_WIDTH is 64 or more. Where the returned word is kept is the model's choice
(log entry 6). -/
def Obligations.RegisterReadsReturnTheStatus : Prop :=
  ∀ s : State,
    (64 ≤ s.cfg.busWidth → exec (.rdResult 0) s = .next { s with readData := s.result }) ∧
    (∀ part, ∃ v, exec (.rdResult part) s = .next { s with readData := v }) ∧
    exec .rdValid s = .next { s with readData := if s.valid then 1 else 0 } ∧
    exec .rdBusy s = .next { s with readData := if s.processing.zero && s.processing.one then 1 else 0 }

/-- R54, R194: read in parts, `result` comes in slices of BUS_WIDTH bits, lowest first or highest first by
RESULT_WORD_ORDER, so that every bit of it is in the part that holds it. The split is the model's (log entry 6).
R57, R238 (`P_read`): where no flush is in flight when the reading starts, as where it starts in the state a FLUSH_DONE
tick leaves, the words of a reading that meets `P_read` are all slices of the one `result` the reading started with, over
whatever ticks without a done pulse pass between them; `valid` stays 1; and a reading of every word gives the host every
bit of that `result`. On a bus that takes `result` whole, where R238 allows done pulses, every word read is the whole
`result` of the state it is read in, while `valid` is 1. R57 does not say what a flush already pending at the first read
does; it would publish between two reads, so the premise that there is none is stated. -/
def Obligations.BusWordsOfResultHoldItsBits : Prop :=
  (∀ (s : State) (inp : TickIn), isFlushDoneTick s inp = true →
    (tickStep s inp).flushPending = false ∧ (tickStep s inp).valid = true) ∧
  (∀ (lvl : Bool) (s : State) (acts : List ReadAction), s.flushPending = false → pRead lvl s acts →
    (64 ≤ s.cfg.busWidth → ∀ a ∈ acts, noDonePulse a = true) →
    (∀ p v, (p, v) ∈ wordsRead s acts → v = resultWord s.cfg s.result p) ∧
    (s.valid = true → (afterReading s acts).valid = true ∧ (afterReading s acts).result = s.result) ∧
    (0 < s.cfg.busWidth → readsEveryWord s.cfg acts → ∀ j, j < 64 → ∃ v : Word,
      (wordOfBit s.cfg j, v) ∈ wordsRead s acts ∧ v.toNat.testBit (j % s.cfg.busWidth) = s.result.toNat.testBit j)) ∧
  (∀ (lvl : Bool) (s : State) (before after : List ReadAction), 64 ≤ s.cfg.busWidth →
    pRead lvl s (before ++ .part 0 :: after) →
    (afterReading s before).valid = true ∧
    wordsRead s (before ++ .part 0 :: after) = wordsRead s before ++ (0, (afterReading s before).result) ::
      wordsRead (readStep (afterReading s before) (.part 0)) after) ∧
  ∀ (s : State) (part : Nat), 0 < s.cfg.busWidth → part * s.cfg.busWidth < 64 → ∃ v : Word,
    exec (.rdResult part) s = .next { s with readData := v } ∧
    (s.cfg.resultWordOrder = .lowFirst →
      ∀ j, v.toNat.testBit j = (decide (j < s.cfg.busWidth) && s.result.toNat.testBit (part * s.cfg.busWidth + j))) ∧
    (s.cfg.resultWordOrder = .highFirst →
      ∀ j, v.toNat.testBit j = (decide (j < s.cfg.busWidth) &&
        s.result.toNat.testBit ((63 / s.cfg.busWidth - part) * s.cfg.busWidth + j)))

/-! ## Reset -/

/-- R40, R220 (the spec's decision D12): after reset every state element and every host-written register is 0. -/
def Obligations.ResetLeavesEverythingZero : Prop :=
  (∀ k, xAt State.reset k = 0 ∧ yAt State.reset k = 0) ∧ State.reset.writeCursor = 0 ∧ State.reset.awb = .zero ∧
  State.reset.full = ⟨false, false⟩ ∧ State.reset.processing = ⟨false, false⟩ ∧ State.reset.startSum = false ∧
  State.reset.flushPending = false ∧ State.reset.accumulator = 0 ∧ State.reset.result = 0 ∧ State.reset.valid = false ∧
  State.reset.enableQ = false ∧ State.reset.doneQ = false ∧ State.reset.xkVal = 0 ∧ State.reset.ykVal = 0 ∧
  State.reset.expReg = 0 ∧ State.reset.enableReg = false ∧ State.reset.doneReg = false ∧ busy State.reset = false

/-- R223: a level of 1 at tick 0 pulses at tick 0, under RISING_EDGE and REFERENCE: `enable` = 1 stores whatever the
sample levels hold in bank 0, slot 0, and `done` = 1 starts a flush that, with nothing accepted, publishes 0 with
`valid` = 1 one tick later. -/
def Obligations.LevelsHighAtResetPulse : Prop :=
  ∀ (cfg : Config) (events : List Event) (lv lv' : RegsIn), cfg.pulseSource = .risingEdge →
    cfg.unsettledPolicy = .reference →
    ∃ t u, exec (.regs lv) (State.initial cfg events) = .next t ∧ exec (.regs lv') t = .next u ∧
      (lv.enable = true → xAt t 0 = lv.xkVal ∧ yAt t 0 = lv.ykVal ∧ t.writeCursor = 1) ∧
      (lv.enable = false → lv.done = true → t.flushPending = true ∧ u.result = 0 ∧ u.valid = true)

/-! ## Rules over the whole machine -/

/-- R200: under REFERENCE every instruction, from every state, has exactly one next state; no step is ever a fault; and
a step is refused only at a reserved register code (R79) or, under REFUSE, at an unsettled tick (R197). -/
def Obligations.EveryInstructionHasANextState : Prop :=
  (∀ (s : State) (i : Instr), s.cfg.unsettledPolicy = .reference → ∃ t, exec i s = .next t) ∧
  (∀ s : State, (∃ t, step s = .next t) ∨ ∃ r, step s = .refused r) ∧
  (∀ (s : State) (r : Refusal), step s = .refused r →
    (∃ c : BitVec 4, r = .reservedAccess c ∧ (c.toNat ≤ 4 ∨ 13 ≤ c.toNat)) ∨
    (∃ u, r = .unsettledTick u ∧ s.cfg.unsettledPolicy = .refuse))

/-- No instruction, no tick and no reset event changes a parameter (R6, R222). -/
def Obligations.ParametersNeverChange : Prop :=
  (∀ (s t : State) (i : Instr), exec i s = .next t → t.cfg = s.cfg) ∧
  (∀ s t : State, step s = .next t → t.cfg = s.cfg)

/-- R31: only the host writes the five registers. No instruction but the write of a register changes that register. -/
def Obligations.OnlyTheHostWritesItsRegisters : Prop :=
  ∀ (s t : State) (i : Instr), exec i s = .next t →
    ((∀ v, i ≠ .wrXk v) → t.xkVal = s.xkVal) ∧ ((∀ v, i ≠ .wrYk v) → t.ykVal = s.ykVal) ∧
    ((∀ v, i ≠ .wrExp v) → t.expReg = s.expReg) ∧ ((∀ v, i ≠ .wrEnable v) → t.enableReg = s.enableReg) ∧
    ((∀ v, i ≠ .wrDone v) → t.doneReg = s.doneReg)

/-- R26 to R29: over all instructions, `flush_pending`, the accumulator, `result` and `valid` change only by the rules
that write them: alone, or in a tick (TICK or REGS) whose chain selects them. -/
def Obligations.FlushStateHasOnlyItsWriters : Prop :=
  ∀ (s t : State) (i : Instr), exec i s = .next t →
    (t.flushPending ≠ s.flushPending → (∃ fp dl, i = .flushStart fp dl) ∨ (∃ dl, i = .flushDone dl) ∨
      ∃ inp, (i = .tick inp ∨ ∃ lv, i = .regs lv ∧ inp = pulseBundle s lv) ∧ s.startSum = false ∧
        (inp.doneRe = true ∨ isFlushDoneTick s inp = true)) ∧
    (t.accumulator ≠ s.accumulator → (∃ de fp dl, i = .acc de fp dl) ∨ (∃ dl, i = .flushDone dl) ∨
      ∃ inp, (i = .tick inp ∨ ∃ lv, i = .regs lv ∧ inp = pulseBundle s lv) ∧
        (s.startSum = true ∨ isFlushDoneTick s inp = true)) ∧
    (t.result ≠ s.result → (∃ dl, i = .flushDone dl) ∨
      ∃ inp, (i = .tick inp ∨ ∃ lv, i = .regs lv ∧ inp = pulseBundle s lv) ∧ isFlushDoneTick s inp = true) ∧
    (t.valid ≠ s.valid → (∃ dl, i = .flushDone dl) ∨ i = .validClear ∨
      ∃ inp, (i = .tick inp ∨ ∃ lv, i = .regs lv ∧ inp = pulseBundle s lv) ∧
        (isFlushDoneTick s inp = true ∨ branch s inp = .validClear))

/-- R51, R52: no register access reaches the sample space, and a stored x or y changes only by an accepted pair in its
slot or, for y, by ACC in the drain bank. -/
def Obligations.SampleSpaceHasOnlyItsWriters : Prop :=
  ∀ (s t : State) (i : Instr) (b : Bank) (k : Cursor), exec i s = .next t →
    (xAt t (slot b k) ≠ xAt s (slot b k) → b = s.awb ∧ k = s.writeCursor ∧ busy s = false ∧
      (i = .acceptWrite ∨ i = .acceptLast ∨
        ∃ inp, (i = .tick inp ∨ ∃ lv, i = .regs lv ∧ inp = pulseBundle s lv) ∧ inp.enRe = true)) ∧
    (yAt t (slot b k) ≠ yAt s (slot b k) →
      (b = s.awb ∧ k = s.writeCursor ∧ busy s = false ∧
        (i = .acceptWrite ∨ i = .acceptLast ∨
          ∃ inp, (i = .tick inp ∨ ∃ lv, i = .regs lv ∧ inp = pulseBundle s lv) ∧ inp.enRe = true)) ∨
      (b = drainBank s ∧ s.startSum = true ∧ yAt t (slot b k) = 0 ∧
        ((∃ de fp dl, i = .acc de fp dl) ∨ (∃ inp, i = .tick inp) ∨ ∃ lv, i = .regs lv)))

/-! ## Invariants -/

/-- What exists of the pulse state follows PULSE_SOURCE, and every step keeps it so: no edge history under WRITE_STROBE,
no strobe under RISING_EDGE (R30, R188). -/
def Obligations.StepKeepsThePulseStateFitting : Prop :=
  ∀ s t : State, pulseStateFits s → step s = .next t → pulseStateFits t

/-- The reset state, at any parameters and with any events to come, meets that invariant, and under REFUSE, with no
selector row run alone to come, the one after it. -/
def Obligations.ResetMeetsTheInvariants : Prop :=
  (∀ (cfg : Config) (events : List Event), pulseStateFits (State.initial cfg events)) ∧ pulseStateFits State.reset ∧
  ∀ (cfg : Config) (events : List Event), cfg.unsettledPolicy = .refuse → events.all isHostEvent = true →
    refusingSteady (State.initial cfg events)

/-- Under UNSETTLED_POLICY = REFUSE, with no selector row run alone to come, every step keeps the core in one of its
four phases, whatever the host does, so `busy` stays 0 and the flags exclude each other (R34, R197, R236). -/
def Obligations.RefusingStepKeepsTheSteadyPhase : Prop :=
  ∀ s t : State, refusingSteady s → step s = .next t →
    refusingSteady t ∧ busy t = false ∧ flagsExclusive t

/-- R237 items 1 to 3, R34, R239: on a run from a reset state that meets R230 to R233, at its end, and so at every tick
of it, `busy` is 0 and the flags exclude each other; and a tick to come that meets them is not unsettled, drops no
accept pulse, and makes a bank full only by the pair that goes into its 16th slot. -/
def Obligations.PremisesKeepBusyLow : Prop :=
  ∀ (cfg : Config) (events : List Event) (ins : List TickIn) (s : State), timingAlong (State.initial cfg events) ins →
    s = runTicks (State.initial cfg events) ins →
    steadyPhase s ∧ busy s = false ∧ flagsExclusive s ∧
    ∀ inp, hostPremises s inp → (∀ u, isUnsettled s inp u = false) ∧ acceptSignal s inp = inp.enRe ∧
      ∀ b, getFlag s.full b = false → getFlag (tickStep s inp).full b = true →
        b = s.awb ∧ s.writeCursor = 15 ∧ inp.enRe = true

/-- R236: on ticks that meet the premises, a bank that ACCEPT_LAST fills at T is drained at T+1, while the other bank is
neither full nor processing, and folded at T+2. -/
def Obligations.FilledBankIsFoldedTwoTicksLater : Prop :=
  ∀ (s : State) (in0 in1 in2 : TickIn), steadyPhase s → acceptSignal s in0 = true → s.writeCursor = 15 →
    hostPremises s in0 → hostPremises (tickStep s in0) in1 → hostPremises (tickStep (tickStep s in0) in1) in2 →
    getFlag (tickStep s in0).full s.awb = true ∧ drainBank (tickStep s in0) = s.awb ∧
    getFlag (tickStep s in0).full (otherBank s.awb) = false ∧
    getFlag (tickStep s in0).processing (otherBank s.awb) = false ∧
    drainSignal (tickStep s in0) = true ∧
    (tickStep (tickStep s in0) in1).startSum = true ∧ drainBank (tickStep (tickStep s in0) in1) = s.awb ∧
    getFlag (tickStep (tickStep s in0) in1).processing s.awb = true ∧
    (runTicks s [in0, in1, in2]).accumulator =
      s.accumulator + bankSum (tickStep (tickStep s in0) in1) s.awb in2.exp ∧
    (∀ i, yAt (runTicks s [in0, in1, in2]) (slot s.awb i) = 0) ∧
    getFlag (runTicks s [in0, in1, in2]).processing s.awb = false

/-- R166 items 1, 2 and 4: on ticks that meet the premises, a done pulse at D starts the flush at D and completes it at
D+1: `valid` = 1, the accumulator and the cursor 0, nothing processing, and a new stream may start. -/
def Obligations.FlushCompletesInTwoTicks : Prop :=
  ∀ (s : State) (in0 in1 : TickIn), steadyPhase s → in0.doneRe = true → hostPremises s in0 →
    hostPremises (tickStep s in0) in1 →
    branch s in0 = .flushStart ∧ branch (tickStep s in0) in1 = .flushDone ∧
    (runTicks s [in0, in1]).valid = true ∧
    (runTicks s [in0, in1]).result = s.accumulator + bankSum s s.awb in1.exp ∧
    streamStart (runTicks s [in0, in1]) ∧ settled (runTicks s [in0, in1])

/-- R237 item 4, R166 item 3: the value a stream publishes. From a state where a stream may start, on a run that meets
R230 to R235 at exponent n and whose last tick is its only FLUSH_DONE, `result` is the sum of x^n·y, modulo 2^64, over
the pairs the run accepted, and `valid` is 1. -/
def Obligations.PublishedResultIsTheStreamSum : Prop :=
  ∀ (n : Exponent) (s : State) (body : List TickIn) (last : TickIn), streamStart s →
    premisesAlong n s (body ++ [last]) → noFlushDoneAlong s body → isFlushDoneTick (runTicks s body) last = true →
    (runTicks s (body ++ [last])).result = streamSum s.cfg.sentinel n (acceptedPairs s (body ++ [last])) ∧
    (runTicks s (body ++ [last])).valid = true ∧ streamStart (runTicks s (body ++ [last]))

/-- R239: a host that keeps the quiet windows, and pulses only while `busy` is 0, meets R231, R232 and R233 at every
tick of an endless run from a reset state, and meets no unsettled tick. -/
def Obligations.QuietWindowsMeetThePremises : Prop :=
  ∀ (cfg : Config) (events : List Event) (st : Nat → State) (ins : Nat → TickIn), st 0 = State.initial cfg events →
    (∀ t, st (t + 1) = tickStep (st t) (ins t)) → (∀ t, pBusy (st t) (ins t)) → quietWindows st ins →
    ∀ t, hostPremises (st t) (ins t) ∧ ∀ u, isUnsettled (st t) (ins t) u = false

/-! ## The tick script -/

/-- R84: the levels start at 0, each keeps its value until a line writes it, the pulses are those of the line itself,
and the four pseudo-instructions are the lines they expand to. -/
def Obligations.ScriptLinesExpand : Prop :=
  scriptStart = ⟨0, 0, 0, false⟩ ∧
  (∀ (lv : ScriptLevels) (l : ScriptLine) (ls : List ScriptLine), assemble lv (l :: ls) =
    ⟨l.xk.getD lv.xk, l.yk.getD lv.yk, l.exp.getD lv.exp, l.en, l.done, l.lvl.getD lv.lvl⟩ ::
      assemble ⟨l.xk.getD lv.xk, l.yk.getD lv.yk, l.exp.getD lv.exp, l.lvl.getD lv.lvl⟩ ls) ∧
  (∀ (lv : ScriptLevels) (xv yv : Sample) (ls : List ScriptLine), assemble lv (pairLine xv yv :: ls) =
    ⟨xv, yv, lv.exp, true, false, lv.lvl⟩ :: assemble ⟨xv, yv, lv.exp, lv.lvl⟩ ls) ∧
  (∀ (lv : ScriptLevels) (ls : List ScriptLine), assemble lv (flushLine :: ls) =
    ⟨lv.xk, lv.yk, lv.exp, false, true, true⟩ :: assemble { lv with lvl := true } ls) ∧
  (∀ (lv : ScriptLevels) (ls : List ScriptLine), assemble lv (releaseLine :: ls) =
    ⟨lv.xk, lv.yk, lv.exp, false, false, false⟩ :: assemble { lv with lvl := false } ls) ∧
  (∀ (lv : ScriptLevels) (n : Nat) (ls : List ScriptLine), assemble lv (idleLines n ++ ls) =
    List.replicate n ⟨lv.xk, lv.yk, lv.exp, false, false, lv.lvl⟩ ++ assemble lv ls)
end

