-- ==== Sys2Proof/Laws/State.lean ====
section
/-! SUPPORT. One lemma per field per update of State, true by rfl: what each named operation and each rule's writes
leave in every field, so that no proof unfolds a record update. -/

namespace Sys2Proof.Machine

/-! ### storePair -/

@[simp] theorem storePair_cfg (k : Slot) (xv yv : Sample) (n : State) :
    (storePair k xv yv n).cfg = n.cfg := rfl
@[simp] theorem storePair_events (k : Slot) (xv yv : Sample) (n : State) :
    (storePair k xv yv n).events = n.events := rfl
@[simp] theorem storePair_x (k : Slot) (xv yv : Sample) (n : State) :
    (storePair k xv yv n).x = n.x.set k xv := rfl
@[simp] theorem storePair_y (k : Slot) (xv yv : Sample) (n : State) :
    (storePair k xv yv n).y = n.y.set k yv := rfl
@[simp] theorem storePair_writeCursor (k : Slot) (xv yv : Sample) (n : State) :
    (storePair k xv yv n).writeCursor = n.writeCursor := rfl
@[simp] theorem storePair_awb (k : Slot) (xv yv : Sample) (n : State) :
    (storePair k xv yv n).awb = n.awb := rfl
@[simp] theorem storePair_full (k : Slot) (xv yv : Sample) (n : State) :
    (storePair k xv yv n).full = n.full := rfl
@[simp] theorem storePair_processing (k : Slot) (xv yv : Sample) (n : State) :
    (storePair k xv yv n).processing = n.processing := rfl
@[simp] theorem storePair_startSum (k : Slot) (xv yv : Sample) (n : State) :
    (storePair k xv yv n).startSum = n.startSum := rfl
@[simp] theorem storePair_flushPending (k : Slot) (xv yv : Sample) (n : State) :
    (storePair k xv yv n).flushPending = n.flushPending := rfl
@[simp] theorem storePair_accumulator (k : Slot) (xv yv : Sample) (n : State) :
    (storePair k xv yv n).accumulator = n.accumulator := rfl
@[simp] theorem storePair_result (k : Slot) (xv yv : Sample) (n : State) :
    (storePair k xv yv n).result = n.result := rfl
@[simp] theorem storePair_valid (k : Slot) (xv yv : Sample) (n : State) :
    (storePair k xv yv n).valid = n.valid := rfl
@[simp] theorem storePair_enableQ (k : Slot) (xv yv : Sample) (n : State) :
    (storePair k xv yv n).enableQ = n.enableQ := rfl
@[simp] theorem storePair_doneQ (k : Slot) (xv yv : Sample) (n : State) :
    (storePair k xv yv n).doneQ = n.doneQ := rfl
@[simp] theorem storePair_xkVal (k : Slot) (xv yv : Sample) (n : State) :
    (storePair k xv yv n).xkVal = n.xkVal := rfl
@[simp] theorem storePair_ykVal (k : Slot) (xv yv : Sample) (n : State) :
    (storePair k xv yv n).ykVal = n.ykVal := rfl
@[simp] theorem storePair_expReg (k : Slot) (xv yv : Sample) (n : State) :
    (storePair k xv yv n).expReg = n.expReg := rfl
@[simp] theorem storePair_enableReg (k : Slot) (xv yv : Sample) (n : State) :
    (storePair k xv yv n).enableReg = n.enableReg := rfl
@[simp] theorem storePair_doneReg (k : Slot) (xv yv : Sample) (n : State) :
    (storePair k xv yv n).doneReg = n.doneReg := rfl
@[simp] theorem storePair_enableStrobe (k : Slot) (xv yv : Sample) (n : State) :
    (storePair k xv yv n).enableStrobe = n.enableStrobe := rfl
@[simp] theorem storePair_doneStrobe (k : Slot) (xv yv : Sample) (n : State) :
    (storePair k xv yv n).doneStrobe = n.doneStrobe := rfl
@[simp] theorem storePair_readData (k : Slot) (xv yv : Sample) (n : State) :
    (storePair k xv yv n).readData = n.readData := rfl
@[simp] theorem storePair_signal (k : Slot) (xv yv : Sample) (n : State) :
    (storePair k xv yv n).signal = n.signal := rfl

/-! ### zeroBankY -/

@[simp] theorem zeroBankY_cfg (b : Bank) (n : State) :
    (zeroBankY b n).cfg = n.cfg := rfl
@[simp] theorem zeroBankY_events (b : Bank) (n : State) :
    (zeroBankY b n).events = n.events := rfl
@[simp] theorem zeroBankY_x (b : Bank) (n : State) :
    (zeroBankY b n).x = n.x := rfl
@[simp] theorem zeroBankY_writeCursor (b : Bank) (n : State) :
    (zeroBankY b n).writeCursor = n.writeCursor := rfl
@[simp] theorem zeroBankY_awb (b : Bank) (n : State) :
    (zeroBankY b n).awb = n.awb := rfl
@[simp] theorem zeroBankY_full (b : Bank) (n : State) :
    (zeroBankY b n).full = n.full := rfl
@[simp] theorem zeroBankY_processing (b : Bank) (n : State) :
    (zeroBankY b n).processing = n.processing := rfl
@[simp] theorem zeroBankY_startSum (b : Bank) (n : State) :
    (zeroBankY b n).startSum = n.startSum := rfl
@[simp] theorem zeroBankY_flushPending (b : Bank) (n : State) :
    (zeroBankY b n).flushPending = n.flushPending := rfl
@[simp] theorem zeroBankY_accumulator (b : Bank) (n : State) :
    (zeroBankY b n).accumulator = n.accumulator := rfl
@[simp] theorem zeroBankY_result (b : Bank) (n : State) :
    (zeroBankY b n).result = n.result := rfl
@[simp] theorem zeroBankY_valid (b : Bank) (n : State) :
    (zeroBankY b n).valid = n.valid := rfl
@[simp] theorem zeroBankY_enableQ (b : Bank) (n : State) :
    (zeroBankY b n).enableQ = n.enableQ := rfl
@[simp] theorem zeroBankY_doneQ (b : Bank) (n : State) :
    (zeroBankY b n).doneQ = n.doneQ := rfl
@[simp] theorem zeroBankY_xkVal (b : Bank) (n : State) :
    (zeroBankY b n).xkVal = n.xkVal := rfl
@[simp] theorem zeroBankY_ykVal (b : Bank) (n : State) :
    (zeroBankY b n).ykVal = n.ykVal := rfl
@[simp] theorem zeroBankY_expReg (b : Bank) (n : State) :
    (zeroBankY b n).expReg = n.expReg := rfl
@[simp] theorem zeroBankY_enableReg (b : Bank) (n : State) :
    (zeroBankY b n).enableReg = n.enableReg := rfl
@[simp] theorem zeroBankY_doneReg (b : Bank) (n : State) :
    (zeroBankY b n).doneReg = n.doneReg := rfl
@[simp] theorem zeroBankY_enableStrobe (b : Bank) (n : State) :
    (zeroBankY b n).enableStrobe = n.enableStrobe := rfl
@[simp] theorem zeroBankY_doneStrobe (b : Bank) (n : State) :
    (zeroBankY b n).doneStrobe = n.doneStrobe := rfl
@[simp] theorem zeroBankY_readData (b : Bank) (n : State) :
    (zeroBankY b n).readData = n.readData := rfl
@[simp] theorem zeroBankY_signal (b : Bank) (n : State) :
    (zeroBankY b n).signal = n.signal := rfl

/-! ### present -/

@[simp] theorem present_cfg (v : Word) (s : State) :
    (present v s).cfg = s.cfg := rfl
@[simp] theorem present_events (v : Word) (s : State) :
    (present v s).events = s.events := rfl
@[simp] theorem present_x (v : Word) (s : State) :
    (present v s).x = s.x := rfl
@[simp] theorem present_y (v : Word) (s : State) :
    (present v s).y = s.y := rfl
@[simp] theorem present_writeCursor (v : Word) (s : State) :
    (present v s).writeCursor = s.writeCursor := rfl
@[simp] theorem present_awb (v : Word) (s : State) :
    (present v s).awb = s.awb := rfl
@[simp] theorem present_full (v : Word) (s : State) :
    (present v s).full = s.full := rfl
@[simp] theorem present_processing (v : Word) (s : State) :
    (present v s).processing = s.processing := rfl
@[simp] theorem present_startSum (v : Word) (s : State) :
    (present v s).startSum = s.startSum := rfl
@[simp] theorem present_flushPending (v : Word) (s : State) :
    (present v s).flushPending = s.flushPending := rfl
@[simp] theorem present_accumulator (v : Word) (s : State) :
    (present v s).accumulator = s.accumulator := rfl
@[simp] theorem present_result (v : Word) (s : State) :
    (present v s).result = s.result := rfl
@[simp] theorem present_valid (v : Word) (s : State) :
    (present v s).valid = s.valid := rfl
@[simp] theorem present_enableQ (v : Word) (s : State) :
    (present v s).enableQ = s.enableQ := rfl
@[simp] theorem present_doneQ (v : Word) (s : State) :
    (present v s).doneQ = s.doneQ := rfl
@[simp] theorem present_xkVal (v : Word) (s : State) :
    (present v s).xkVal = s.xkVal := rfl
@[simp] theorem present_ykVal (v : Word) (s : State) :
    (present v s).ykVal = s.ykVal := rfl
@[simp] theorem present_expReg (v : Word) (s : State) :
    (present v s).expReg = s.expReg := rfl
@[simp] theorem present_enableReg (v : Word) (s : State) :
    (present v s).enableReg = s.enableReg := rfl
@[simp] theorem present_doneReg (v : Word) (s : State) :
    (present v s).doneReg = s.doneReg := rfl
@[simp] theorem present_enableStrobe (v : Word) (s : State) :
    (present v s).enableStrobe = s.enableStrobe := rfl
@[simp] theorem present_doneStrobe (v : Word) (s : State) :
    (present v s).doneStrobe = s.doneStrobe := rfl
@[simp] theorem present_readData (v : Word) (s : State) :
    (present v s).readData = s.readData := rfl
@[simp] theorem present_signal (v : Word) (s : State) :
    (present v s).signal = .value v := rfl

/-! ### returnData -/

@[simp] theorem returnData_cfg (v : Word) (s : State) :
    (returnData v s).cfg = s.cfg := rfl
@[simp] theorem returnData_events (v : Word) (s : State) :
    (returnData v s).events = s.events := rfl
@[simp] theorem returnData_x (v : Word) (s : State) :
    (returnData v s).x = s.x := rfl
@[simp] theorem returnData_y (v : Word) (s : State) :
    (returnData v s).y = s.y := rfl
@[simp] theorem returnData_writeCursor (v : Word) (s : State) :
    (returnData v s).writeCursor = s.writeCursor := rfl
@[simp] theorem returnData_awb (v : Word) (s : State) :
    (returnData v s).awb = s.awb := rfl
@[simp] theorem returnData_full (v : Word) (s : State) :
    (returnData v s).full = s.full := rfl
@[simp] theorem returnData_processing (v : Word) (s : State) :
    (returnData v s).processing = s.processing := rfl
@[simp] theorem returnData_startSum (v : Word) (s : State) :
    (returnData v s).startSum = s.startSum := rfl
@[simp] theorem returnData_flushPending (v : Word) (s : State) :
    (returnData v s).flushPending = s.flushPending := rfl
@[simp] theorem returnData_accumulator (v : Word) (s : State) :
    (returnData v s).accumulator = s.accumulator := rfl
@[simp] theorem returnData_result (v : Word) (s : State) :
    (returnData v s).result = s.result := rfl
@[simp] theorem returnData_valid (v : Word) (s : State) :
    (returnData v s).valid = s.valid := rfl
@[simp] theorem returnData_enableQ (v : Word) (s : State) :
    (returnData v s).enableQ = s.enableQ := rfl
@[simp] theorem returnData_doneQ (v : Word) (s : State) :
    (returnData v s).doneQ = s.doneQ := rfl
@[simp] theorem returnData_xkVal (v : Word) (s : State) :
    (returnData v s).xkVal = s.xkVal := rfl
@[simp] theorem returnData_ykVal (v : Word) (s : State) :
    (returnData v s).ykVal = s.ykVal := rfl
@[simp] theorem returnData_expReg (v : Word) (s : State) :
    (returnData v s).expReg = s.expReg := rfl
@[simp] theorem returnData_enableReg (v : Word) (s : State) :
    (returnData v s).enableReg = s.enableReg := rfl
@[simp] theorem returnData_doneReg (v : Word) (s : State) :
    (returnData v s).doneReg = s.doneReg := rfl
@[simp] theorem returnData_enableStrobe (v : Word) (s : State) :
    (returnData v s).enableStrobe = s.enableStrobe := rfl
@[simp] theorem returnData_doneStrobe (v : Word) (s : State) :
    (returnData v s).doneStrobe = s.doneStrobe := rfl
@[simp] theorem returnData_readData (v : Word) (s : State) :
    (returnData v s).readData = v := rfl
@[simp] theorem returnData_signal (v : Word) (s : State) :
    (returnData v s).signal = s.signal := rfl

/-! ### acceptWriteWrites -/

@[simp] theorem acceptWriteWrites_cfg (s : State) (inp : TickIn) (n : State) :
    (acceptWriteWrites s inp n).cfg = n.cfg := rfl
@[simp] theorem acceptWriteWrites_events (s : State) (inp : TickIn) (n : State) :
    (acceptWriteWrites s inp n).events = n.events := rfl
@[simp] theorem acceptWriteWrites_x (s : State) (inp : TickIn) (n : State) :
    (acceptWriteWrites s inp n).x = n.x.set (slot s.awb s.writeCursor) inp.xk := rfl
@[simp] theorem acceptWriteWrites_y (s : State) (inp : TickIn) (n : State) :
    (acceptWriteWrites s inp n).y = n.y.set (slot s.awb s.writeCursor) inp.yk := rfl
@[simp] theorem acceptWriteWrites_writeCursor (s : State) (inp : TickIn) (n : State) :
    (acceptWriteWrites s inp n).writeCursor = s.writeCursor + 1 := rfl
@[simp] theorem acceptWriteWrites_awb (s : State) (inp : TickIn) (n : State) :
    (acceptWriteWrites s inp n).awb = n.awb := rfl
@[simp] theorem acceptWriteWrites_full (s : State) (inp : TickIn) (n : State) :
    (acceptWriteWrites s inp n).full = n.full := rfl
@[simp] theorem acceptWriteWrites_processing (s : State) (inp : TickIn) (n : State) :
    (acceptWriteWrites s inp n).processing = n.processing := rfl
@[simp] theorem acceptWriteWrites_startSum (s : State) (inp : TickIn) (n : State) :
    (acceptWriteWrites s inp n).startSum = n.startSum := rfl
@[simp] theorem acceptWriteWrites_flushPending (s : State) (inp : TickIn) (n : State) :
    (acceptWriteWrites s inp n).flushPending = n.flushPending := rfl
@[simp] theorem acceptWriteWrites_accumulator (s : State) (inp : TickIn) (n : State) :
    (acceptWriteWrites s inp n).accumulator = n.accumulator := rfl
@[simp] theorem acceptWriteWrites_result (s : State) (inp : TickIn) (n : State) :
    (acceptWriteWrites s inp n).result = n.result := rfl
@[simp] theorem acceptWriteWrites_valid (s : State) (inp : TickIn) (n : State) :
    (acceptWriteWrites s inp n).valid = n.valid := rfl
@[simp] theorem acceptWriteWrites_enableQ (s : State) (inp : TickIn) (n : State) :
    (acceptWriteWrites s inp n).enableQ = n.enableQ := rfl
@[simp] theorem acceptWriteWrites_doneQ (s : State) (inp : TickIn) (n : State) :
    (acceptWriteWrites s inp n).doneQ = n.doneQ := rfl
@[simp] theorem acceptWriteWrites_xkVal (s : State) (inp : TickIn) (n : State) :
    (acceptWriteWrites s inp n).xkVal = n.xkVal := rfl
@[simp] theorem acceptWriteWrites_ykVal (s : State) (inp : TickIn) (n : State) :
    (acceptWriteWrites s inp n).ykVal = n.ykVal := rfl
@[simp] theorem acceptWriteWrites_expReg (s : State) (inp : TickIn) (n : State) :
    (acceptWriteWrites s inp n).expReg = n.expReg := rfl
@[simp] theorem acceptWriteWrites_enableReg (s : State) (inp : TickIn) (n : State) :
    (acceptWriteWrites s inp n).enableReg = n.enableReg := rfl
@[simp] theorem acceptWriteWrites_doneReg (s : State) (inp : TickIn) (n : State) :
    (acceptWriteWrites s inp n).doneReg = n.doneReg := rfl
@[simp] theorem acceptWriteWrites_enableStrobe (s : State) (inp : TickIn) (n : State) :
    (acceptWriteWrites s inp n).enableStrobe = n.enableStrobe := rfl
@[simp] theorem acceptWriteWrites_doneStrobe (s : State) (inp : TickIn) (n : State) :
    (acceptWriteWrites s inp n).doneStrobe = n.doneStrobe := rfl
@[simp] theorem acceptWriteWrites_readData (s : State) (inp : TickIn) (n : State) :
    (acceptWriteWrites s inp n).readData = n.readData := rfl
@[simp] theorem acceptWriteWrites_signal (s : State) (inp : TickIn) (n : State) :
    (acceptWriteWrites s inp n).signal = n.signal := rfl

/-! ### acceptLastWrites -/

@[simp] theorem acceptLastWrites_cfg (s : State) (inp : TickIn) (n : State) :
    (acceptLastWrites s inp n).cfg = n.cfg := rfl
@[simp] theorem acceptLastWrites_events (s : State) (inp : TickIn) (n : State) :
    (acceptLastWrites s inp n).events = n.events := rfl
@[simp] theorem acceptLastWrites_x (s : State) (inp : TickIn) (n : State) :
    (acceptLastWrites s inp n).x = n.x.set (slot s.awb 15) inp.xk := rfl
@[simp] theorem acceptLastWrites_y (s : State) (inp : TickIn) (n : State) :
    (acceptLastWrites s inp n).y = n.y.set (slot s.awb 15) inp.yk := rfl
@[simp] theorem acceptLastWrites_writeCursor (s : State) (inp : TickIn) (n : State) :
    (acceptLastWrites s inp n).writeCursor = 0 := rfl
@[simp] theorem acceptLastWrites_awb (s : State) (inp : TickIn) (n : State) :
    (acceptLastWrites s inp n).awb = otherBank s.awb := rfl
@[simp] theorem acceptLastWrites_full (s : State) (inp : TickIn) (n : State) :
    (acceptLastWrites s inp n).full = setFlag n.full s.awb true := rfl
@[simp] theorem acceptLastWrites_processing (s : State) (inp : TickIn) (n : State) :
    (acceptLastWrites s inp n).processing = n.processing := rfl
@[simp] theorem acceptLastWrites_startSum (s : State) (inp : TickIn) (n : State) :
    (acceptLastWrites s inp n).startSum = n.startSum := rfl
@[simp] theorem acceptLastWrites_flushPending (s : State) (inp : TickIn) (n : State) :
    (acceptLastWrites s inp n).flushPending = n.flushPending := rfl
@[simp] theorem acceptLastWrites_accumulator (s : State) (inp : TickIn) (n : State) :
    (acceptLastWrites s inp n).accumulator = n.accumulator := rfl
@[simp] theorem acceptLastWrites_result (s : State) (inp : TickIn) (n : State) :
    (acceptLastWrites s inp n).result = n.result := rfl
@[simp] theorem acceptLastWrites_valid (s : State) (inp : TickIn) (n : State) :
    (acceptLastWrites s inp n).valid = n.valid := rfl
@[simp] theorem acceptLastWrites_enableQ (s : State) (inp : TickIn) (n : State) :
    (acceptLastWrites s inp n).enableQ = n.enableQ := rfl
@[simp] theorem acceptLastWrites_doneQ (s : State) (inp : TickIn) (n : State) :
    (acceptLastWrites s inp n).doneQ = n.doneQ := rfl
@[simp] theorem acceptLastWrites_xkVal (s : State) (inp : TickIn) (n : State) :
    (acceptLastWrites s inp n).xkVal = n.xkVal := rfl
@[simp] theorem acceptLastWrites_ykVal (s : State) (inp : TickIn) (n : State) :
    (acceptLastWrites s inp n).ykVal = n.ykVal := rfl
@[simp] theorem acceptLastWrites_expReg (s : State) (inp : TickIn) (n : State) :
    (acceptLastWrites s inp n).expReg = n.expReg := rfl
@[simp] theorem acceptLastWrites_enableReg (s : State) (inp : TickIn) (n : State) :
    (acceptLastWrites s inp n).enableReg = n.enableReg := rfl
@[simp] theorem acceptLastWrites_doneReg (s : State) (inp : TickIn) (n : State) :
    (acceptLastWrites s inp n).doneReg = n.doneReg := rfl
@[simp] theorem acceptLastWrites_enableStrobe (s : State) (inp : TickIn) (n : State) :
    (acceptLastWrites s inp n).enableStrobe = n.enableStrobe := rfl
@[simp] theorem acceptLastWrites_doneStrobe (s : State) (inp : TickIn) (n : State) :
    (acceptLastWrites s inp n).doneStrobe = n.doneStrobe := rfl
@[simp] theorem acceptLastWrites_readData (s : State) (inp : TickIn) (n : State) :
    (acceptLastWrites s inp n).readData = n.readData := rfl
@[simp] theorem acceptLastWrites_signal (s : State) (inp : TickIn) (n : State) :
    (acceptLastWrites s inp n).signal = n.signal := rfl

/-! ### drainWrites -/

@[simp] theorem drainWrites_cfg (s n : State) :
    (drainWrites s n).cfg = n.cfg := rfl
@[simp] theorem drainWrites_events (s n : State) :
    (drainWrites s n).events = n.events := rfl
@[simp] theorem drainWrites_x (s n : State) :
    (drainWrites s n).x = n.x := rfl
@[simp] theorem drainWrites_y (s n : State) :
    (drainWrites s n).y = n.y := rfl
@[simp] theorem drainWrites_writeCursor (s n : State) :
    (drainWrites s n).writeCursor = n.writeCursor := rfl
@[simp] theorem drainWrites_awb (s n : State) :
    (drainWrites s n).awb = n.awb := rfl
@[simp] theorem drainWrites_full (s n : State) :
    (drainWrites s n).full = setFlag n.full (drainBank s) false := rfl
@[simp] theorem drainWrites_processing (s n : State) :
    (drainWrites s n).processing = setFlag n.processing (drainBank s) true := rfl
@[simp] theorem drainWrites_startSum (s n : State) :
    (drainWrites s n).startSum = true := rfl
@[simp] theorem drainWrites_flushPending (s n : State) :
    (drainWrites s n).flushPending = n.flushPending := rfl
@[simp] theorem drainWrites_accumulator (s n : State) :
    (drainWrites s n).accumulator = n.accumulator := rfl
@[simp] theorem drainWrites_result (s n : State) :
    (drainWrites s n).result = n.result := rfl
@[simp] theorem drainWrites_valid (s n : State) :
    (drainWrites s n).valid = n.valid := rfl
@[simp] theorem drainWrites_enableQ (s n : State) :
    (drainWrites s n).enableQ = n.enableQ := rfl
@[simp] theorem drainWrites_doneQ (s n : State) :
    (drainWrites s n).doneQ = n.doneQ := rfl
@[simp] theorem drainWrites_xkVal (s n : State) :
    (drainWrites s n).xkVal = n.xkVal := rfl
@[simp] theorem drainWrites_ykVal (s n : State) :
    (drainWrites s n).ykVal = n.ykVal := rfl
@[simp] theorem drainWrites_expReg (s n : State) :
    (drainWrites s n).expReg = n.expReg := rfl
@[simp] theorem drainWrites_enableReg (s n : State) :
    (drainWrites s n).enableReg = n.enableReg := rfl
@[simp] theorem drainWrites_doneReg (s n : State) :
    (drainWrites s n).doneReg = n.doneReg := rfl
@[simp] theorem drainWrites_enableStrobe (s n : State) :
    (drainWrites s n).enableStrobe = n.enableStrobe := rfl
@[simp] theorem drainWrites_doneStrobe (s n : State) :
    (drainWrites s n).doneStrobe = n.doneStrobe := rfl
@[simp] theorem drainWrites_readData (s n : State) :
    (drainWrites s n).readData = n.readData := rfl
@[simp] theorem drainWrites_signal (s n : State) :
    (drainWrites s n).signal = n.signal := rfl

/-! ### noDrainWrites -/

@[simp] theorem noDrainWrites_cfg (n : State) :
    (noDrainWrites n).cfg = n.cfg := rfl
@[simp] theorem noDrainWrites_events (n : State) :
    (noDrainWrites n).events = n.events := rfl
@[simp] theorem noDrainWrites_x (n : State) :
    (noDrainWrites n).x = n.x := rfl
@[simp] theorem noDrainWrites_y (n : State) :
    (noDrainWrites n).y = n.y := rfl
@[simp] theorem noDrainWrites_writeCursor (n : State) :
    (noDrainWrites n).writeCursor = n.writeCursor := rfl
@[simp] theorem noDrainWrites_awb (n : State) :
    (noDrainWrites n).awb = n.awb := rfl
@[simp] theorem noDrainWrites_full (n : State) :
    (noDrainWrites n).full = n.full := rfl
@[simp] theorem noDrainWrites_processing (n : State) :
    (noDrainWrites n).processing = n.processing := rfl
@[simp] theorem noDrainWrites_startSum (n : State) :
    (noDrainWrites n).startSum = false := rfl
@[simp] theorem noDrainWrites_flushPending (n : State) :
    (noDrainWrites n).flushPending = n.flushPending := rfl
@[simp] theorem noDrainWrites_accumulator (n : State) :
    (noDrainWrites n).accumulator = n.accumulator := rfl
@[simp] theorem noDrainWrites_result (n : State) :
    (noDrainWrites n).result = n.result := rfl
@[simp] theorem noDrainWrites_valid (n : State) :
    (noDrainWrites n).valid = n.valid := rfl
@[simp] theorem noDrainWrites_enableQ (n : State) :
    (noDrainWrites n).enableQ = n.enableQ := rfl
@[simp] theorem noDrainWrites_doneQ (n : State) :
    (noDrainWrites n).doneQ = n.doneQ := rfl
@[simp] theorem noDrainWrites_xkVal (n : State) :
    (noDrainWrites n).xkVal = n.xkVal := rfl
@[simp] theorem noDrainWrites_ykVal (n : State) :
    (noDrainWrites n).ykVal = n.ykVal := rfl
@[simp] theorem noDrainWrites_expReg (n : State) :
    (noDrainWrites n).expReg = n.expReg := rfl
@[simp] theorem noDrainWrites_enableReg (n : State) :
    (noDrainWrites n).enableReg = n.enableReg := rfl
@[simp] theorem noDrainWrites_doneReg (n : State) :
    (noDrainWrites n).doneReg = n.doneReg := rfl
@[simp] theorem noDrainWrites_enableStrobe (n : State) :
    (noDrainWrites n).enableStrobe = n.enableStrobe := rfl
@[simp] theorem noDrainWrites_doneStrobe (n : State) :
    (noDrainWrites n).doneStrobe = n.doneStrobe := rfl
@[simp] theorem noDrainWrites_readData (n : State) :
    (noDrainWrites n).readData = n.readData := rfl
@[simp] theorem noDrainWrites_signal (n : State) :
    (noDrainWrites n).signal = n.signal := rfl

/-! ### noDrainHeldWrites -/

@[simp] theorem noDrainHeldWrites_cfg (n : State) :
    (noDrainHeldWrites n).cfg = n.cfg := rfl
@[simp] theorem noDrainHeldWrites_events (n : State) :
    (noDrainHeldWrites n).events = n.events := rfl
@[simp] theorem noDrainHeldWrites_x (n : State) :
    (noDrainHeldWrites n).x = n.x := rfl
@[simp] theorem noDrainHeldWrites_y (n : State) :
    (noDrainHeldWrites n).y = n.y := rfl
@[simp] theorem noDrainHeldWrites_writeCursor (n : State) :
    (noDrainHeldWrites n).writeCursor = n.writeCursor := rfl
@[simp] theorem noDrainHeldWrites_awb (n : State) :
    (noDrainHeldWrites n).awb = n.awb := rfl
@[simp] theorem noDrainHeldWrites_full (n : State) :
    (noDrainHeldWrites n).full = n.full := rfl
@[simp] theorem noDrainHeldWrites_processing (n : State) :
    (noDrainHeldWrites n).processing = n.processing := rfl
@[simp] theorem noDrainHeldWrites_startSum (n : State) :
    (noDrainHeldWrites n).startSum = false := rfl
@[simp] theorem noDrainHeldWrites_flushPending (n : State) :
    (noDrainHeldWrites n).flushPending = n.flushPending := rfl
@[simp] theorem noDrainHeldWrites_accumulator (n : State) :
    (noDrainHeldWrites n).accumulator = n.accumulator := rfl
@[simp] theorem noDrainHeldWrites_result (n : State) :
    (noDrainHeldWrites n).result = n.result := rfl
@[simp] theorem noDrainHeldWrites_valid (n : State) :
    (noDrainHeldWrites n).valid = n.valid := rfl
@[simp] theorem noDrainHeldWrites_enableQ (n : State) :
    (noDrainHeldWrites n).enableQ = n.enableQ := rfl
@[simp] theorem noDrainHeldWrites_doneQ (n : State) :
    (noDrainHeldWrites n).doneQ = n.doneQ := rfl
@[simp] theorem noDrainHeldWrites_xkVal (n : State) :
    (noDrainHeldWrites n).xkVal = n.xkVal := rfl
@[simp] theorem noDrainHeldWrites_ykVal (n : State) :
    (noDrainHeldWrites n).ykVal = n.ykVal := rfl
@[simp] theorem noDrainHeldWrites_expReg (n : State) :
    (noDrainHeldWrites n).expReg = n.expReg := rfl
@[simp] theorem noDrainHeldWrites_enableReg (n : State) :
    (noDrainHeldWrites n).enableReg = n.enableReg := rfl
@[simp] theorem noDrainHeldWrites_doneReg (n : State) :
    (noDrainHeldWrites n).doneReg = n.doneReg := rfl
@[simp] theorem noDrainHeldWrites_enableStrobe (n : State) :
    (noDrainHeldWrites n).enableStrobe = n.enableStrobe := rfl
@[simp] theorem noDrainHeldWrites_doneStrobe (n : State) :
    (noDrainHeldWrites n).doneStrobe = n.doneStrobe := rfl
@[simp] theorem noDrainHeldWrites_readData (n : State) :
    (noDrainHeldWrites n).readData = n.readData := rfl
@[simp] theorem noDrainHeldWrites_signal (n : State) :
    (noDrainHeldWrites n).signal = n.signal := rfl

/-! ### accWrites -/

@[simp] theorem accWrites_cfg (s : State) (inp : TickIn) (n : State) :
    (accWrites s inp n).cfg = n.cfg := rfl
@[simp] theorem accWrites_events (s : State) (inp : TickIn) (n : State) :
    (accWrites s inp n).events = n.events := rfl
@[simp] theorem accWrites_x (s : State) (inp : TickIn) (n : State) :
    (accWrites s inp n).x = n.x := rfl
@[simp] theorem accWrites_y (s : State) (inp : TickIn) (n : State) :
    (accWrites s inp n).y = (zeroBankY (drainBank s) n).y := rfl
@[simp] theorem accWrites_writeCursor (s : State) (inp : TickIn) (n : State) :
    (accWrites s inp n).writeCursor = n.writeCursor := rfl
@[simp] theorem accWrites_awb (s : State) (inp : TickIn) (n : State) :
    (accWrites s inp n).awb = n.awb := rfl
@[simp] theorem accWrites_full (s : State) (inp : TickIn) (n : State) :
    (accWrites s inp n).full = n.full := rfl
@[simp] theorem accWrites_processing (s : State) (inp : TickIn) (n : State) :
    (accWrites s inp n).processing = setFlag n.processing (drainBank s) false := rfl
@[simp] theorem accWrites_startSum (s : State) (inp : TickIn) (n : State) :
    (accWrites s inp n).startSum = n.startSum := rfl
@[simp] theorem accWrites_flushPending (s : State) (inp : TickIn) (n : State) :
    (accWrites s inp n).flushPending = n.flushPending := rfl
@[simp] theorem accWrites_accumulator (s : State) (inp : TickIn) (n : State) :
    (accWrites s inp n).accumulator = s.accumulator + bankSum s (drainBank s) inp.exp := rfl
@[simp] theorem accWrites_result (s : State) (inp : TickIn) (n : State) :
    (accWrites s inp n).result = n.result := rfl
@[simp] theorem accWrites_valid (s : State) (inp : TickIn) (n : State) :
    (accWrites s inp n).valid = n.valid := rfl
@[simp] theorem accWrites_enableQ (s : State) (inp : TickIn) (n : State) :
    (accWrites s inp n).enableQ = n.enableQ := rfl
@[simp] theorem accWrites_doneQ (s : State) (inp : TickIn) (n : State) :
    (accWrites s inp n).doneQ = n.doneQ := rfl
@[simp] theorem accWrites_xkVal (s : State) (inp : TickIn) (n : State) :
    (accWrites s inp n).xkVal = n.xkVal := rfl
@[simp] theorem accWrites_ykVal (s : State) (inp : TickIn) (n : State) :
    (accWrites s inp n).ykVal = n.ykVal := rfl
@[simp] theorem accWrites_expReg (s : State) (inp : TickIn) (n : State) :
    (accWrites s inp n).expReg = n.expReg := rfl
@[simp] theorem accWrites_enableReg (s : State) (inp : TickIn) (n : State) :
    (accWrites s inp n).enableReg = n.enableReg := rfl
@[simp] theorem accWrites_doneReg (s : State) (inp : TickIn) (n : State) :
    (accWrites s inp n).doneReg = n.doneReg := rfl
@[simp] theorem accWrites_enableStrobe (s : State) (inp : TickIn) (n : State) :
    (accWrites s inp n).enableStrobe = n.enableStrobe := rfl
@[simp] theorem accWrites_doneStrobe (s : State) (inp : TickIn) (n : State) :
    (accWrites s inp n).doneStrobe = n.doneStrobe := rfl
@[simp] theorem accWrites_readData (s : State) (inp : TickIn) (n : State) :
    (accWrites s inp n).readData = n.readData := rfl
@[simp] theorem accWrites_signal (s : State) (inp : TickIn) (n : State) :
    (accWrites s inp n).signal = n.signal := rfl

/-! ### flushStartWrites -/

@[simp] theorem flushStartWrites_cfg (s n : State) :
    (flushStartWrites s n).cfg = n.cfg := rfl
@[simp] theorem flushStartWrites_events (s n : State) :
    (flushStartWrites s n).events = n.events := rfl
@[simp] theorem flushStartWrites_x (s n : State) :
    (flushStartWrites s n).x = n.x := rfl
@[simp] theorem flushStartWrites_y (s n : State) :
    (flushStartWrites s n).y = n.y := rfl
@[simp] theorem flushStartWrites_writeCursor (s n : State) :
    (flushStartWrites s n).writeCursor = n.writeCursor := rfl
@[simp] theorem flushStartWrites_awb (s n : State) :
    (flushStartWrites s n).awb = otherBank s.awb := rfl
@[simp] theorem flushStartWrites_full (s n : State) :
    (flushStartWrites s n).full = n.full := rfl
@[simp] theorem flushStartWrites_processing (s n : State) :
    (flushStartWrites s n).processing = if s.cfg.flushMarksProcessing then setFlag n.processing s.awb true else n.processing := rfl
@[simp] theorem flushStartWrites_startSum (s n : State) :
    (flushStartWrites s n).startSum = n.startSum := rfl
@[simp] theorem flushStartWrites_flushPending (s n : State) :
    (flushStartWrites s n).flushPending = true := rfl
@[simp] theorem flushStartWrites_accumulator (s n : State) :
    (flushStartWrites s n).accumulator = n.accumulator := rfl
@[simp] theorem flushStartWrites_result (s n : State) :
    (flushStartWrites s n).result = n.result := rfl
@[simp] theorem flushStartWrites_valid (s n : State) :
    (flushStartWrites s n).valid = n.valid := rfl
@[simp] theorem flushStartWrites_enableQ (s n : State) :
    (flushStartWrites s n).enableQ = n.enableQ := rfl
@[simp] theorem flushStartWrites_doneQ (s n : State) :
    (flushStartWrites s n).doneQ = n.doneQ := rfl
@[simp] theorem flushStartWrites_xkVal (s n : State) :
    (flushStartWrites s n).xkVal = n.xkVal := rfl
@[simp] theorem flushStartWrites_ykVal (s n : State) :
    (flushStartWrites s n).ykVal = n.ykVal := rfl
@[simp] theorem flushStartWrites_expReg (s n : State) :
    (flushStartWrites s n).expReg = n.expReg := rfl
@[simp] theorem flushStartWrites_enableReg (s n : State) :
    (flushStartWrites s n).enableReg = n.enableReg := rfl
@[simp] theorem flushStartWrites_doneReg (s n : State) :
    (flushStartWrites s n).doneReg = n.doneReg := rfl
@[simp] theorem flushStartWrites_enableStrobe (s n : State) :
    (flushStartWrites s n).enableStrobe = n.enableStrobe := rfl
@[simp] theorem flushStartWrites_doneStrobe (s n : State) :
    (flushStartWrites s n).doneStrobe = n.doneStrobe := rfl
@[simp] theorem flushStartWrites_readData (s n : State) :
    (flushStartWrites s n).readData = n.readData := rfl
@[simp] theorem flushStartWrites_signal (s n : State) :
    (flushStartWrites s n).signal = n.signal := rfl

/-! ### flushDoneWrites -/

@[simp] theorem flushDoneWrites_cfg (s : State) (inp : TickIn) (n : State) :
    (flushDoneWrites s inp n).cfg = n.cfg := rfl
@[simp] theorem flushDoneWrites_events (s : State) (inp : TickIn) (n : State) :
    (flushDoneWrites s inp n).events = n.events := rfl
@[simp] theorem flushDoneWrites_x (s : State) (inp : TickIn) (n : State) :
    (flushDoneWrites s inp n).x = n.x := rfl
@[simp] theorem flushDoneWrites_y (s : State) (inp : TickIn) (n : State) :
    (flushDoneWrites s inp n).y = n.y := rfl
@[simp] theorem flushDoneWrites_writeCursor (s : State) (inp : TickIn) (n : State) :
    (flushDoneWrites s inp n).writeCursor = 0 := rfl
@[simp] theorem flushDoneWrites_awb (s : State) (inp : TickIn) (n : State) :
    (flushDoneWrites s inp n).awb = n.awb := rfl
@[simp] theorem flushDoneWrites_full (s : State) (inp : TickIn) (n : State) :
    (flushDoneWrites s inp n).full = n.full := rfl
@[simp] theorem flushDoneWrites_processing (s : State) (inp : TickIn) (n : State) :
    (flushDoneWrites s inp n).processing = ⟨false, false⟩ := rfl
@[simp] theorem flushDoneWrites_startSum (s : State) (inp : TickIn) (n : State) :
    (flushDoneWrites s inp n).startSum = n.startSum := rfl
@[simp] theorem flushDoneWrites_flushPending (s : State) (inp : TickIn) (n : State) :
    (flushDoneWrites s inp n).flushPending = false := rfl
@[simp] theorem flushDoneWrites_accumulator (s : State) (inp : TickIn) (n : State) :
    (flushDoneWrites s inp n).accumulator = 0 := rfl
@[simp] theorem flushDoneWrites_result (s : State) (inp : TickIn) (n : State) :
    (flushDoneWrites s inp n).result = s.accumulator + bankSum s (drainBank s) inp.exp := rfl
@[simp] theorem flushDoneWrites_valid (s : State) (inp : TickIn) (n : State) :
    (flushDoneWrites s inp n).valid = true := rfl
@[simp] theorem flushDoneWrites_enableQ (s : State) (inp : TickIn) (n : State) :
    (flushDoneWrites s inp n).enableQ = n.enableQ := rfl
@[simp] theorem flushDoneWrites_doneQ (s : State) (inp : TickIn) (n : State) :
    (flushDoneWrites s inp n).doneQ = n.doneQ := rfl
@[simp] theorem flushDoneWrites_xkVal (s : State) (inp : TickIn) (n : State) :
    (flushDoneWrites s inp n).xkVal = n.xkVal := rfl
@[simp] theorem flushDoneWrites_ykVal (s : State) (inp : TickIn) (n : State) :
    (flushDoneWrites s inp n).ykVal = n.ykVal := rfl
@[simp] theorem flushDoneWrites_expReg (s : State) (inp : TickIn) (n : State) :
    (flushDoneWrites s inp n).expReg = n.expReg := rfl
@[simp] theorem flushDoneWrites_enableReg (s : State) (inp : TickIn) (n : State) :
    (flushDoneWrites s inp n).enableReg = n.enableReg := rfl
@[simp] theorem flushDoneWrites_doneReg (s : State) (inp : TickIn) (n : State) :
    (flushDoneWrites s inp n).doneReg = n.doneReg := rfl
@[simp] theorem flushDoneWrites_enableStrobe (s : State) (inp : TickIn) (n : State) :
    (flushDoneWrites s inp n).enableStrobe = n.enableStrobe := rfl
@[simp] theorem flushDoneWrites_doneStrobe (s : State) (inp : TickIn) (n : State) :
    (flushDoneWrites s inp n).doneStrobe = n.doneStrobe := rfl
@[simp] theorem flushDoneWrites_readData (s : State) (inp : TickIn) (n : State) :
    (flushDoneWrites s inp n).readData = n.readData := rfl
@[simp] theorem flushDoneWrites_signal (s : State) (inp : TickIn) (n : State) :
    (flushDoneWrites s inp n).signal = n.signal := rfl

/-! ### validClearWrites -/

@[simp] theorem validClearWrites_cfg (n : State) :
    (validClearWrites n).cfg = n.cfg := rfl
@[simp] theorem validClearWrites_events (n : State) :
    (validClearWrites n).events = n.events := rfl
@[simp] theorem validClearWrites_x (n : State) :
    (validClearWrites n).x = n.x := rfl
@[simp] theorem validClearWrites_y (n : State) :
    (validClearWrites n).y = n.y := rfl
@[simp] theorem validClearWrites_writeCursor (n : State) :
    (validClearWrites n).writeCursor = n.writeCursor := rfl
@[simp] theorem validClearWrites_awb (n : State) :
    (validClearWrites n).awb = n.awb := rfl
@[simp] theorem validClearWrites_full (n : State) :
    (validClearWrites n).full = n.full := rfl
@[simp] theorem validClearWrites_processing (n : State) :
    (validClearWrites n).processing = n.processing := rfl
@[simp] theorem validClearWrites_startSum (n : State) :
    (validClearWrites n).startSum = n.startSum := rfl
@[simp] theorem validClearWrites_flushPending (n : State) :
    (validClearWrites n).flushPending = n.flushPending := rfl
@[simp] theorem validClearWrites_accumulator (n : State) :
    (validClearWrites n).accumulator = n.accumulator := rfl
@[simp] theorem validClearWrites_result (n : State) :
    (validClearWrites n).result = n.result := rfl
@[simp] theorem validClearWrites_valid (n : State) :
    (validClearWrites n).valid = false := rfl
@[simp] theorem validClearWrites_enableQ (n : State) :
    (validClearWrites n).enableQ = n.enableQ := rfl
@[simp] theorem validClearWrites_doneQ (n : State) :
    (validClearWrites n).doneQ = n.doneQ := rfl
@[simp] theorem validClearWrites_xkVal (n : State) :
    (validClearWrites n).xkVal = n.xkVal := rfl
@[simp] theorem validClearWrites_ykVal (n : State) :
    (validClearWrites n).ykVal = n.ykVal := rfl
@[simp] theorem validClearWrites_expReg (n : State) :
    (validClearWrites n).expReg = n.expReg := rfl
@[simp] theorem validClearWrites_enableReg (n : State) :
    (validClearWrites n).enableReg = n.enableReg := rfl
@[simp] theorem validClearWrites_doneReg (n : State) :
    (validClearWrites n).doneReg = n.doneReg := rfl
@[simp] theorem validClearWrites_enableStrobe (n : State) :
    (validClearWrites n).enableStrobe = n.enableStrobe := rfl
@[simp] theorem validClearWrites_doneStrobe (n : State) :
    (validClearWrites n).doneStrobe = n.doneStrobe := rfl
@[simp] theorem validClearWrites_readData (n : State) :
    (validClearWrites n).readData = n.readData := rfl
@[simp] theorem validClearWrites_signal (n : State) :
    (validClearWrites n).signal = n.signal := rfl

/-! ### pulseWrites -/

@[simp] theorem pulseWrites_cfg (s : State) (lv : RegsIn) (n : State) :
    (pulseWrites s lv n).cfg = n.cfg := by
  unfold pulseWrites
  cases s.cfg.pulseSource <;> rfl
@[simp] theorem pulseWrites_events (s : State) (lv : RegsIn) (n : State) :
    (pulseWrites s lv n).events = n.events := by
  unfold pulseWrites
  cases s.cfg.pulseSource <;> rfl
@[simp] theorem pulseWrites_x (s : State) (lv : RegsIn) (n : State) :
    (pulseWrites s lv n).x = n.x := by
  unfold pulseWrites
  cases s.cfg.pulseSource <;> rfl
@[simp] theorem pulseWrites_y (s : State) (lv : RegsIn) (n : State) :
    (pulseWrites s lv n).y = n.y := by
  unfold pulseWrites
  cases s.cfg.pulseSource <;> rfl
@[simp] theorem pulseWrites_writeCursor (s : State) (lv : RegsIn) (n : State) :
    (pulseWrites s lv n).writeCursor = n.writeCursor := by
  unfold pulseWrites
  cases s.cfg.pulseSource <;> rfl
@[simp] theorem pulseWrites_awb (s : State) (lv : RegsIn) (n : State) :
    (pulseWrites s lv n).awb = n.awb := by
  unfold pulseWrites
  cases s.cfg.pulseSource <;> rfl
@[simp] theorem pulseWrites_full (s : State) (lv : RegsIn) (n : State) :
    (pulseWrites s lv n).full = n.full := by
  unfold pulseWrites
  cases s.cfg.pulseSource <;> rfl
@[simp] theorem pulseWrites_processing (s : State) (lv : RegsIn) (n : State) :
    (pulseWrites s lv n).processing = n.processing := by
  unfold pulseWrites
  cases s.cfg.pulseSource <;> rfl
@[simp] theorem pulseWrites_startSum (s : State) (lv : RegsIn) (n : State) :
    (pulseWrites s lv n).startSum = n.startSum := by
  unfold pulseWrites
  cases s.cfg.pulseSource <;> rfl
@[simp] theorem pulseWrites_flushPending (s : State) (lv : RegsIn) (n : State) :
    (pulseWrites s lv n).flushPending = n.flushPending := by
  unfold pulseWrites
  cases s.cfg.pulseSource <;> rfl
@[simp] theorem pulseWrites_accumulator (s : State) (lv : RegsIn) (n : State) :
    (pulseWrites s lv n).accumulator = n.accumulator := by
  unfold pulseWrites
  cases s.cfg.pulseSource <;> rfl
@[simp] theorem pulseWrites_result (s : State) (lv : RegsIn) (n : State) :
    (pulseWrites s lv n).result = n.result := by
  unfold pulseWrites
  cases s.cfg.pulseSource <;> rfl
@[simp] theorem pulseWrites_valid (s : State) (lv : RegsIn) (n : State) :
    (pulseWrites s lv n).valid = n.valid := by
  unfold pulseWrites
  cases s.cfg.pulseSource <;> rfl
@[simp] theorem pulseWrites_xkVal (s : State) (lv : RegsIn) (n : State) :
    (pulseWrites s lv n).xkVal = n.xkVal := by
  unfold pulseWrites
  cases s.cfg.pulseSource <;> rfl
@[simp] theorem pulseWrites_ykVal (s : State) (lv : RegsIn) (n : State) :
    (pulseWrites s lv n).ykVal = n.ykVal := by
  unfold pulseWrites
  cases s.cfg.pulseSource <;> rfl
@[simp] theorem pulseWrites_expReg (s : State) (lv : RegsIn) (n : State) :
    (pulseWrites s lv n).expReg = n.expReg := by
  unfold pulseWrites
  cases s.cfg.pulseSource <;> rfl
@[simp] theorem pulseWrites_enableReg (s : State) (lv : RegsIn) (n : State) :
    (pulseWrites s lv n).enableReg = n.enableReg := by
  unfold pulseWrites
  cases s.cfg.pulseSource <;> rfl
@[simp] theorem pulseWrites_doneReg (s : State) (lv : RegsIn) (n : State) :
    (pulseWrites s lv n).doneReg = n.doneReg := by
  unfold pulseWrites
  cases s.cfg.pulseSource <;> rfl
@[simp] theorem pulseWrites_readData (s : State) (lv : RegsIn) (n : State) :
    (pulseWrites s lv n).readData = n.readData := by
  unfold pulseWrites
  cases s.cfg.pulseSource <;> rfl
@[simp] theorem pulseWrites_signal (s : State) (lv : RegsIn) (n : State) :
    (pulseWrites s lv n).signal = n.signal := by
  unfold pulseWrites
  cases s.cfg.pulseSource <;> rfl

@[simp] theorem dropWriteWrites_eq (n : State) : dropWriteWrites n = n := rfl
@[simp] theorem noWriteWrites_eq (n : State) : noWriteWrites n = n := rfl
@[simp] theorem validHoldWrites_eq (n : State) : validHoldWrites n = n := rfl

end Sys2Proof.Machine
end

