-- ==== Sys2Proof/Laws/Arrays.lean ====
section
/-! SUPPORT. Banks, flags, slots and the sample arrays: what each read gives after each write (R20, R51). -/

namespace Sys2Proof.Machine

/-! ### Banks and flags -/

@[simp] theorem otherBank_otherBank (b : Bank) : otherBank (otherBank b) = b := by cases b <;> rfl

theorem otherBank_ne (b : Bank) : otherBank b ≠ b := by cases b <;> decide

theorem eq_or_eq_otherBank (b c : Bank) : b = c ∨ b = otherBank c := by cases b <;> cases c <;> decide

@[simp] theorem getFlag_setFlag_same (f : BankFlags) (b : Bank) (v : Bool) : getFlag (setFlag f b v) b = v := by
  cases b <;> rfl

theorem getFlag_setFlag_other (f : BankFlags) (b c : Bank) (v : Bool) (h : c ≠ b) :
    getFlag (setFlag f b v) c = getFlag f c := by
  cases b <;> cases c <;> first | rfl | exact absurd rfl h

theorem bankFlags_ext (f g : BankFlags) (h : ∀ b, getFlag f b = getFlag g b) : f = g := by
  have h0 := h .zero
  have h1 := h .one
  cases f
  cases g
  simp_all [getFlag]

/-! ### Slots -/

theorem bankNum_inj (b c : Bank) (h : bankNum b = bankNum c) : b = c := by cases b <;> cases c <;> simp_all [bankNum]

theorem slot_val (b : Bank) (i : Cursor) : (slot b i).val = 16 * bankNum b + i.toNat := rfl

/-- The bank of a slot is its index over 16. -/
theorem slot_div (b : Bank) (i : Cursor) : (slot b i).val / 16 = bankNum b := by
  have := i.isLt
  rw [slot_val]
  omega

theorem slot_inj (b c : Bank) (i j : Cursor) : slot b i = slot c j ↔ b = c ∧ i = j := by
  constructor
  · intro h
    have hb : bankNum b = bankNum c := by rw [← slot_div b i, ← slot_div c j, h]
    have hv : (slot b i).val = (slot c j).val := by rw [h]
    refine ⟨bankNum_inj b c hb, BitVec.eq_of_toNat_eq ?_⟩
    rw [slot_val, slot_val, hb] at hv
    omega
  · rintro ⟨rfl, rfl⟩
    rfl

/-- Every index is a slot of a bank. -/
theorem exists_slot (k : Slot) : ∃ b i, k = slot b i := by
  have hk := k.isLt
  by_cases h : k.val < 16
  · exact ⟨.zero, BitVec.ofNat 4 k.val, Fin.ext (by simp [slot_val, bankNum]; omega)⟩
  · exact ⟨.one, BitVec.ofNat 4 (k.val - 16), Fin.ext (by simp [slot_val, bankNum]; omega)⟩

/-! ### The sample arrays -/

/-- An array read after a write to one entry. -/
theorem getElem_set_slot (v : Vector Sample 32) (k j : Slot) (a : Sample) :
    (v.set k a)[j] = if j = k then a else v[j] := by
  simp only [Fin.getElem_fin, Vector.getElem_set, Fin.ext_iff, eq_comm]

/-- `X[j]` after `X'[k] <- xv`. -/
theorem xAt_storePair (k j : Slot) (xv yv : Sample) (n : State) :
    xAt (storePair k xv yv n) j = if j = k then xv else xAt n j :=
  getElem_set_slot n.x k j xv

/-- `Y[j]` after `Y'[k] <- yv`. -/
theorem yAt_storePair (k j : Slot) (xv yv : Sample) (n : State) :
    yAt (storePair k xv yv n) j = if j = k then yv else yAt n j :=
  getElem_set_slot n.y k j yv

@[simp] theorem xAt_zeroBankY (b : Bank) (n : State) (j : Slot) : xAt (zeroBankY b n) j = xAt n j := rfl

/-- `Y[j]` after a bank's Y entries were zeroed. -/
theorem yAt_zeroBankY (b : Bank) (n : State) (j : Slot) :
    yAt (zeroBankY b n) j = if j.val / 16 = bankNum b then 0 else yAt n j := by
  simp only [yAt, zeroBankY, Fin.getElem_fin, Vector.getElem_mapIdx]

/-- Reads determine an array. -/
theorem samples_ext (v w : Vector Sample 32) (h : ∀ k : Slot, v[k] = w[k]) : v = w :=
  Vector.ext fun i hi => h ⟨i, hi⟩

end Sys2Proof.Machine
end

