-- ==== Sys2Proof/Laws/Bundles.lean ====
section
/-! SUPPORT. The TICK and REGS bundles: which field each bit of a packed bundle is, and that packing and unpacking undo
each other (R76, R77). -/

namespace Sys2Proof

theorem getLsbD_ofBool_sub (b : Bool) (k j : Nat) (h : j ≤ k) :
    (BitVec.ofBool b).getLsbD (k - j) = (decide (k = j) && b) := by
  rw [BitVec.getLsbD_ofBool]
  congr 1
  exact decide_eq_decide.2 (by omega)

/-- Bit k of a packed TICK bundle (R76). -/
theorem packTick_getLsbD (inp : TickIn) (k : Nat) : (packTick inp).getLsbD k =
    if k < 32 then inp.xk.getLsbD k else if k < 64 then inp.yk.getLsbD (k - 32)
    else if k < 67 then inp.exp.getLsbD (k - 64) else if k = 67 then inp.enRe else if k = 68 then inp.doneRe
    else decide (k = 69) && inp.doneLvl := by
  unfold packTick
  rw [BitVec.getLsbD_append, BitVec.getLsbD_append, BitVec.getLsbD_append, BitVec.getLsbD_append,
    BitVec.getLsbD_append]
  simp only [Nat.sub_sub]
  split_ifs
  all_goals first
    | omega
    | rfl
    | (rw [getLsbD_ofBool_sub _ _ _ (by omega), decide_eq_true (by omega), Bool.true_and])
    | (rw [getLsbD_ofBool_sub _ _ _ (by omega)])

/-- Bit k of packed register levels (R77). -/
theorem packRegs_getLsbD (lv : RegsIn) (k : Nat) : (packRegs lv).getLsbD k =
    if k < 32 then lv.xkVal.getLsbD k else if k < 64 then lv.ykVal.getLsbD (k - 32)
    else if k < 67 then lv.exp.getLsbD (k - 64) else if k = 67 then lv.enable else decide (k = 68) && lv.done := by
  unfold packRegs
  rw [BitVec.getLsbD_append, BitVec.getLsbD_append, BitVec.getLsbD_append, BitVec.getLsbD_append]
  simp only [Nat.sub_sub]
  split_ifs
  all_goals first
    | omega
    | rfl
    | (rw [getLsbD_ofBool_sub _ _ _ (by omega), decide_eq_true (by omega), Bool.true_and])
    | (rw [getLsbD_ofBool_sub _ _ _ (by omega)])

/-- The bundle unpacked from its own word. -/
theorem unpackTick_packTick (inp : TickIn) : unpackTick (packTick inp) = inp := by
  obtain ⟨xk, yk, exp, enRe, doneRe, doneLvl⟩ := inp
  simp only [unpackTick, packTick_getLsbD]
  congr 1 <;> apply BitVec.eq_of_getLsbD_eq <;> intro i hi <;>
    simp only [BitVec.getLsbD_extractLsb', packTick_getLsbD]
  · simp [hi]
  · rw [if_neg (by omega), if_pos (by omega)]; simp [hi]
  · rw [if_neg (by omega), if_neg (by omega), if_pos (by omega)]; simp [hi]

/-- The levels unpacked from their own word. -/
theorem unpackRegs_packRegs (lv : RegsIn) : unpackRegs (packRegs lv) = lv := by
  obtain ⟨xkVal, ykVal, exp, enable, done⟩ := lv
  simp only [unpackRegs, packRegs_getLsbD]
  congr 1 <;> apply BitVec.eq_of_getLsbD_eq <;> intro i hi <;>
    simp only [BitVec.getLsbD_extractLsb', packRegs_getLsbD]
  · simp [hi]
  · rw [if_neg (by omega), if_pos (by omega)]; simp [hi]
  · rw [if_neg (by omega), if_neg (by omega), if_pos (by omega)]; simp [hi]

/-- Every 70-bit word is the word of the bundle it holds. -/
theorem packTick_unpackTick (w : BitVec 70) : packTick (unpackTick w) = w := by
  apply BitVec.eq_of_getLsbD_eq
  intro k hk
  rw [packTick_getLsbD]
  simp only [unpackTick, BitVec.getLsbD_extractLsb']
  split_ifs with h1 h2 h3 h4 h5
  · simp [h1]
  · rw [show 32 + (k - 32) = k by omega]; simp; omega
  · rw [show 64 + (k - 64) = k by omega]; simp; omega
  · rw [h4]
  · rw [h5]
  · rw [show k = 69 by omega]; simp

/-- Every 69-bit word is the word of the levels it holds. -/
theorem packRegs_unpackRegs (w : BitVec 69) : packRegs (unpackRegs w) = w := by
  apply BitVec.eq_of_getLsbD_eq
  intro k hk
  rw [packRegs_getLsbD]
  simp only [unpackRegs, BitVec.getLsbD_extractLsb']
  split_ifs with h1 h2 h3 h4
  · simp [h1]
  · rw [show 32 + (k - 32) = k by omega]; simp; omega
  · rw [show 64 + (k - 64) = k by omega]; simp; omega
  · rw [h4]
  · rw [show k = 68 by omega]; simp

end Sys2Proof
end

