-- ==== Sys2Proof/Laws/Fetch.lean ====
section
/-! SUPPORT. What the bus leaves of an instruction: one the host can present, and of such a one, all of it (R54, R194). -/

namespace Sys2Proof.Machine

/-- A data word on the bus fits it. -/
theorem busData_fits (cfg : Config) (v : Nat) : cfg.dataFits (busData cfg v) = true :=
  decide_eq_true (Nat.mod_lt _ (Nat.two_pow_pos _))

/-- A data word that fits is carried whole. -/
theorem busData_of_fits (cfg : Config) (v : Nat) (h : cfg.dataFits v = true) : busData cfg v = v :=
  Nat.mod_eq_of_lt (of_decide_eq_true h)

/-- The bus words that exist are those below their number. -/
theorem partExists_iff (cfg : Config) (part : Nat) (h : 0 < cfg.busWidth) :
    cfg.partExists part = true ↔ part < resultWords cfg := by
  unfold Config.partExists resultWords
  rw [decide_eq_true_iff, Nat.lt_div_iff_mul_lt h]
  omega

/-- A bus word asked for exists. -/
theorem busPart_exists (cfg : Config) (part : Nat) : cfg.partExists (busPart cfg part) = true := by
  rcases Nat.eq_zero_or_pos cfg.busWidth with h | h
  · simp [Config.partExists, h]
  · have hw : 0 < resultWords cfg := (partExists_iff cfg 0 h).1 (by simp [Config.partExists])
    exact (partExists_iff cfg _ h).2 (Nat.mod_lt _ hw)

/-- The number of a bus word that exists is itself. -/
theorem busPart_of_exists (cfg : Config) (part : Nat) (h : cfg.partExists part = true) : busPart cfg part = part := by
  rcases Nat.eq_zero_or_pos cfg.busWidth with h0 | h0
  · simp [busPart, resultWords, h0]
  · exact Nat.mod_eq_of_lt ((partExists_iff cfg part h0).1 h)

/-- What reaches the core is well-formed. -/
theorem onBus_wellFormed (cfg : Config) (i : Instr) : (onBus cfg i).wellFormed cfg = true := by
  cases i <;> first | rfl | exact busData_fits cfg _ | exact busPart_exists cfg _

/-- A well-formed instruction reaches the core as it is. -/
theorem onBus_of_wellFormed (cfg : Config) (i : Instr) (h : i.wellFormed cfg = true) : onBus cfg i = i := by
  cases i <;> first
    | rfl
    | exact congrArg _ (busData_of_fits cfg _ h)
    | exact congrArg _ (busPart_of_exists cfg _ h)

end Sys2Proof.Machine
end

