-- ==== Sys2Proof/Laws/PerInstr.lean ====
section
/-! SUPPORT. Per-instruction laws. TableBits: the code the encoder writes is in the format spec/opcode_table.json gives
the row, and its selector bits carry the row's match under its mask (R82). -/

namespace Sys2Proof.Laws.TableBits

/-- The encoded word has its row's format and fixed bits. -/
def Statement (i : Instr) : Prop :=
  (codeBits (encode i)).1 = (tableRow i).format ∧ (codeBits (encode i)).2 &&& (tableRow i).mask = (tableRow i).value

theorem pow0 (a0 : Word) : Statement (.pow0 a0) :=
  by simp [Statement, codeBits, encode, tableRow]

theorem pow1 (a0 : Word) : Statement (.pow1 a0) :=
  by simp [Statement, codeBits, encode, tableRow]

theorem pow2 (a0 : Word) : Statement (.pow2 a0) :=
  by simp [Statement, codeBits, encode, tableRow]

theorem pow3 (a0 : Word) : Statement (.pow3 a0) :=
  by simp [Statement, codeBits, encode, tableRow]

theorem pow4 (a0 : Word) : Statement (.pow4 a0) :=
  by simp [Statement, codeBits, encode, tableRow]

theorem powSent5 (a0 : Word) : Statement (.powSent5 a0) :=
  by simp [Statement, codeBits, encode, tableRow]

theorem powSent6 (a0 : Word) : Statement (.powSent6 a0) :=
  by simp [Statement, codeBits, encode, tableRow]

theorem powSent7 (a0 : Word) : Statement (.powSent7 a0) :=
  by simp [Statement, codeBits, encode, tableRow]

theorem noWrite (a0 : Bool) (a1 : Bool) : Statement (.noWrite a0 a1) := by
  cases a0 <;> cases a1 <;> exact ⟨rfl, rfl⟩

theorem dropWrite (a0 : Bool) : Statement (.dropWrite a0) := by
  cases a0 <;> exact ⟨rfl, rfl⟩

theorem acceptWrite : Statement (.acceptWrite) := ⟨rfl, rfl⟩

theorem acceptLast : Statement (.acceptLast) := ⟨rfl, rfl⟩

theorem drain : Statement (.drain) := ⟨rfl, rfl⟩

theorem noDrain (a0 : Bool) : Statement (.noDrain a0) := by
  cases a0 <;> exact ⟨rfl, rfl⟩

theorem noDrainHeld : Statement (.noDrainHeld) := ⟨rfl, rfl⟩

theorem acc (a0 : Bool) (a1 : Bool) (a2 : Bool) : Statement (.acc a0 a1 a2) := by
  cases a0 <;> cases a1 <;> cases a2 <;> exact ⟨rfl, rfl⟩

theorem flushStart (a0 : Bool) (a1 : Bool) : Statement (.flushStart a0 a1) := by
  cases a0 <;> cases a1 <;> exact ⟨rfl, rfl⟩

theorem flushDone (a0 : Bool) : Statement (.flushDone a0) := by
  cases a0 <;> exact ⟨rfl, rfl⟩

theorem validClear : Statement (.validClear) := ⟨rfl, rfl⟩

theorem validHold : Statement (.validHold) := ⟨rfl, rfl⟩

theorem mul (a0 : Word) (a1 : Word) : Statement (.mul a0 a1) :=
  by simp [Statement, codeBits, encode, tableRow]

theorem lane (a0 : Bank) (a1 : Cursor) (a2 : Exponent) : Statement (.lane a0 a1 a2) :=
  by simp [Statement, codeBits, encode, tableRow]

theorem tree (a0 : Vector Word 16) : Statement (.tree a0) :=
  by simp [Statement, codeBits, encode, tableRow]

theorem bankSum (a0 : Bank) (a1 : Exponent) : Statement (.bankSum a0 a1) :=
  by simp [Statement, codeBits, encode, tableRow]

theorem busy : Statement (.busy) := ⟨rfl, rfl⟩

theorem pulse : Statement (.pulse) := ⟨rfl, rfl⟩

theorem tick (a0 : TickIn) : Statement (.tick a0) := ⟨rfl, Nat.and_zero _⟩

theorem regs (a0 : RegsIn) : Statement (.regs a0) := ⟨rfl, Nat.and_zero _⟩

theorem wrXk (a0 : Nat) : Statement (.wrXk a0) :=
  by simp [Statement, codeBits, encode, tableRow]

theorem wrYk (a0 : Nat) : Statement (.wrYk a0) :=
  by simp [Statement, codeBits, encode, tableRow]

theorem wrExp (a0 : Nat) : Statement (.wrExp a0) :=
  by simp [Statement, codeBits, encode, tableRow]

theorem wrEnable (a0 : Nat) : Statement (.wrEnable a0) :=
  by simp [Statement, codeBits, encode, tableRow]

theorem wrDone (a0 : Nat) : Statement (.wrDone a0) :=
  by simp [Statement, codeBits, encode, tableRow]

theorem rdResult (a0 : Nat) : Statement (.rdResult a0) :=
  by simp [Statement, codeBits, encode, tableRow]

theorem rdValid : Statement (.rdValid) := ⟨rfl, rfl⟩

theorem rdBusy : Statement (.rdBusy) := ⟨rfl, rfl⟩

end Sys2Proof.Laws.TableBits
end

