-- ==== Sys2Proof/Laws/Select.lean ====
section
/-! SUPPORT. Which row each selector word of a tick selects (R72 to R74, R165), and what a tick or a row alone can
answer (R181, R197). -/

namespace Sys2Proof.Machine

/-! ### Bits of a selector word -/

theorem decodeAcpt3_bits3 (en bz c15 : Bool) : decodeAcpt3 (bits3 en bz c15) =
    if en then (if bz then .dropWrite c15 else if c15 then .acceptLast else .acceptWrite) else .noWrite bz c15 := by
  cases en <;> cases bz <;> cases c15 <;> rfl

theorem decodeDrn2_bits2 (f p : Bool) : decodeDrn2 (bits2 f p) =
    if f then (if p then .noDrainHeld else .drain) else .noDrain p := by
  cases f <;> cases p <;> rfl

theorem decodeCtrl4_bits4 (ss de fp dl : Bool) : decodeCtrl4 (bits4 ss de fp dl) =
    if ss then .acc de fp dl else if de then .flushStart fp dl else if fp then .flushDone dl
    else if dl then .validHold else .validClear := by
  cases ss <;> cases de <;> cases fp <;> cases dl <;> rfl

/-! ### The three paths of a tick -/

/-- The write path stores in place, stores and switches banks, or writes nothing. -/
theorem writePath_eq (s : State) (inp : TickIn) (n : State) : writePath s inp n =
    if acceptSignal s inp then (if cursorLast s then acceptLastWrites s inp n else acceptWriteWrites s inp n)
    else n := by
  unfold writePath acpt3Word acceptSignal
  rw [decodeAcpt3_bits3]
  cases inp.enRe <;> cases busy s <;> cases cursorLast s <;> rfl

/-- The drain path drains, or clears `start_sum`. -/
theorem drainPath_eq (s n : State) : drainPath s n = if drainSignal s then drainWrites s n else noDrainWrites n := by
  unfold drainPath drn2Word drainSignal
  rw [decodeDrn2_bits2]
  cases getFlag s.full (drainBank s) <;> cases getFlag s.processing (drainBank s) <;> rfl

/-- The chain before FLUSH_DONE. -/
theorem chainEarly_eq (s : State) (inp : TickIn) (n : State) : chainEarly s inp n =
    if s.startSum then accWrites s inp n else if inp.doneRe then flushStartWrites s n
    else if s.flushPending then n else if inp.doneLvl then n else validClearWrites n := by
  unfold chainEarly ctrl4Word
  rw [decodeCtrl4_bits4]
  cases s.startSum <;> cases inp.doneRe <;> cases s.flushPending <;> cases inp.doneLvl <;> rfl

/-- FLUSH_DONE, where the chain selects it. -/
theorem chainLate_eq (s : State) (inp : TickIn) (n : State) : chainLate s inp n =
    if !s.startSum && !inp.doneRe && s.flushPending then flushDoneWrites s inp n else n := by
  unfold chainLate ctrl4Word
  rw [decodeCtrl4_bits4]
  cases s.startSum <;> cases inp.doneRe <;> cases s.flushPending <;> cases inp.doneLvl <;> rfl

/-! ### What a tick and a row alone can answer -/

/-- A tick answers the composed state, or is refused under REFUSE by an unsettled case that holds. -/
theorem runTick_cases (s : State) (inp : TickIn) (n : State) :
    runTick s inp n = .next (composeTick s inp n) ∨
    ∃ u, s.cfg.unsettledPolicy = .refuse ∧ unsettledCase s inp = some u ∧ runTick s inp n = .refused (.unsettledTick u) := by
  unfold runTick
  cases hp : s.cfg.unsettledPolicy with
  | reference => exact .inl rfl
  | refuse =>
    cases hu : unsettledCase s inp with
    | none => exact .inl rfl
    | some u => exact .inr ⟨u, rfl, rfl, rfl⟩

/-- Under REFERENCE every tick runs (R197). -/
theorem runTick_reference (s : State) (inp : TickIn) (n : State) (h : s.cfg.unsettledPolicy = .reference) :
    runTick s inp n = .next (composeTick s inp n) := by
  unfold runTick
  rw [h]

/-- A tick that no unsettled case holds of runs under either policy (R197). -/
theorem runTick_settled (s : State) (inp : TickIn) (n : State) (h : unsettledCase s inp = none) :
    runTick s inp n = .next (composeTick s inp n) := by
  unfold runTick
  rw [h]
  cases s.cfg.unsettledPolicy <;> rfl

/-- The unsettled case found is one that holds. -/
theorem isUnsettled_of_case (s : State) (inp : TickIn) (u : Unsettled) (h : unsettledCase s inp = some u) :
    isUnsettled s inp u = true :=
  List.find?_some h

/-- No case is found exactly where none holds. -/
theorem unsettledCase_none (s : State) (inp : TickIn) :
    unsettledCase s inp = none ↔ ∀ u, isUnsettled s inp u = false := by
  unfold unsettledCase
  rw [List.find?_eq_none]
  constructor
  · intro h u
    have := h u (by cases u <;> simp)
    simpa using this
  · intro h u _
    simp [h u]

/-- A row alone always answers a next state: its writes where it is selected, the same state where it is not. -/
theorem fireRow_true (w : State → State) (s : State) : fireRow true w s = .next (w s) := rfl

theorem fireRow_false (w : State → State) (s : State) : fireRow false w s = .next s := rfl

end Sys2Proof.Machine
end

