-- ==== Sys2Proof/Laws/Tick.lean ====
section
/-! SUPPORT. What a tick, and a step, can answer: the next state of a tick as one nest of choices, what no tick writes,
and the kinds of step (R181, R188, R197, R222). -/

namespace Sys2Proof.Machine

/-! ### The composed next state -/

/-- A tick's next state by its accept and drain signals and the control chain's conditions (R181, R184). -/
theorem composeTick_eq (s : State) (inp : TickIn) (n : State) : composeTick s inp n =
    (let w := if acceptSignal s inp then
        (if cursorLast s then acceptLastWrites s inp n else acceptWriteWrites s inp n) else n
     let e := if s.startSum then accWrites s inp w else if inp.doneRe then flushStartWrites s w
       else if s.flushPending then w else if inp.doneLvl then w else validClearWrites w
     let d := if drainSignal s then drainWrites s e else noDrainWrites e
     if !s.startSum && !inp.doneRe && s.flushPending then flushDoneWrites s inp d else d) := by
  unfold composeTick
  rw [chainLate_eq, drainPath_eq, chainEarly_eq, writePath_eq]

/-- What no rule of a tick writes. -/
theorem composeTick_frame (s : State) (inp : TickIn) (n : State) :
    ((composeTick s inp n).cfg = n.cfg ∧ (composeTick s inp n).events = n.events ∧
      (composeTick s inp n).readData = n.readData ∧ (composeTick s inp n).signal = n.signal) ∧
    ((composeTick s inp n).enableQ = n.enableQ ∧ (composeTick s inp n).doneQ = n.doneQ ∧
      (composeTick s inp n).enableStrobe = n.enableStrobe ∧ (composeTick s inp n).doneStrobe = n.doneStrobe) ∧
    ((composeTick s inp n).xkVal = n.xkVal ∧ (composeTick s inp n).ykVal = n.ykVal ∧
      (composeTick s inp n).expReg = n.expReg ∧ (composeTick s inp n).enableReg = n.enableReg ∧
      (composeTick s inp n).doneReg = n.doneReg) := by
  rw [composeTick_eq]
  rcases Bool.eq_false_or_eq_true s.startSum with h1 | h1 <;>
    rcases Bool.eq_false_or_eq_true inp.doneRe with h2 | h2 <;>
    rcases Bool.eq_false_or_eq_true s.flushPending with h3 | h3 <;>
    rcases Bool.eq_false_or_eq_true inp.doneLvl with h4 | h4 <;>
    rcases Bool.eq_false_or_eq_true (drainSignal s) with h5 | h5 <;>
    rcases Bool.eq_false_or_eq_true (acceptSignal s inp) with h6 | h6 <;>
    rcases Bool.eq_false_or_eq_true (cursorLast s) with h7 | h7 <;>
    simp [h1, h2, h3, h4, h5, h6, h7]

@[simp] theorem composeTick_cfg (s : State) (inp : TickIn) (n : State) : (composeTick s inp n).cfg = n.cfg :=
  (composeTick_frame s inp n).1.1
@[simp] theorem composeTick_events (s : State) (inp : TickIn) (n : State) : (composeTick s inp n).events = n.events :=
  (composeTick_frame s inp n).1.2.1
@[simp] theorem composeTick_readData (s : State) (inp : TickIn) (n : State) :
    (composeTick s inp n).readData = n.readData :=
  (composeTick_frame s inp n).1.2.2.1
@[simp] theorem composeTick_signal (s : State) (inp : TickIn) (n : State) : (composeTick s inp n).signal = n.signal :=
  (composeTick_frame s inp n).1.2.2.2
@[simp] theorem composeTick_enableQ (s : State) (inp : TickIn) (n : State) : (composeTick s inp n).enableQ = n.enableQ :=
  (composeTick_frame s inp n).2.1.1
@[simp] theorem composeTick_doneQ (s : State) (inp : TickIn) (n : State) : (composeTick s inp n).doneQ = n.doneQ :=
  (composeTick_frame s inp n).2.1.2.1
@[simp] theorem composeTick_enableStrobe (s : State) (inp : TickIn) (n : State) :
    (composeTick s inp n).enableStrobe = n.enableStrobe :=
  (composeTick_frame s inp n).2.1.2.2.1
@[simp] theorem composeTick_doneStrobe (s : State) (inp : TickIn) (n : State) :
    (composeTick s inp n).doneStrobe = n.doneStrobe :=
  (composeTick_frame s inp n).2.1.2.2.2
@[simp] theorem composeTick_xkVal (s : State) (inp : TickIn) (n : State) : (composeTick s inp n).xkVal = n.xkVal :=
  (composeTick_frame s inp n).2.2.1
@[simp] theorem composeTick_ykVal (s : State) (inp : TickIn) (n : State) : (composeTick s inp n).ykVal = n.ykVal :=
  (composeTick_frame s inp n).2.2.2.1
@[simp] theorem composeTick_expReg (s : State) (inp : TickIn) (n : State) : (composeTick s inp n).expReg = n.expReg :=
  (composeTick_frame s inp n).2.2.2.2.1
@[simp] theorem composeTick_enableReg (s : State) (inp : TickIn) (n : State) :
    (composeTick s inp n).enableReg = n.enableReg :=
  (composeTick_frame s inp n).2.2.2.2.2.1
@[simp] theorem composeTick_doneReg (s : State) (inp : TickIn) (n : State) : (composeTick s inp n).doneReg = n.doneReg :=
  (composeTick_frame s inp n).2.2.2.2.2.2

/-- PULSE's writes and the tick's land on different fields, so their order does not matter. -/
theorem composeTick_pulseWrites (s : State) (inp : TickIn) (lv : RegsIn) :
    composeTick s inp (pulseWrites s lv s) = pulseWrites s lv (tickStep s inp) := by
  unfold tickStep
  rw [composeTick_eq, composeTick_eq]
  rcases h : s.cfg.pulseSource <;> simp only [pulseWrites, h] <;>
    rcases Bool.eq_false_or_eq_true s.startSum with h1 | h1 <;>
    rcases Bool.eq_false_or_eq_true inp.doneRe with h2 | h2 <;>
    rcases Bool.eq_false_or_eq_true s.flushPending with h3 | h3 <;>
    rcases Bool.eq_false_or_eq_true inp.doneLvl with h4 | h4 <;>
    rcases Bool.eq_false_or_eq_true (drainSignal s) with h5 | h5 <;>
    rcases Bool.eq_false_or_eq_true (acceptSignal s inp) with h6 | h6 <;>
    rcases Bool.eq_false_or_eq_true (cursorLast s) with h7 | h7 <;>
    simp [h1, h2, h3, h4, h5, h6, h7] <;> rfl

/-! ### What the instructions of a tick answer -/

/-- The next state of a tick, where it has one. -/
theorem runTick_next (s : State) (inp : TickIn) (n t : State) (h : runTick s inp n = .next t) :
    t = composeTick s inp n := by
  rcases runTick_cases s inp n with h' | ⟨u, _, _, h'⟩
  · rw [h'] at h
    injection h with h
    exact h.symm
  · rw [h'] at h
    cases h

/-- The next state of TICK, where it has one. -/
theorem exec_tick_next (s t : State) (inp : TickIn) (h : exec (.tick inp) s = .next t) : t = tickStep s inp :=
  runTick_next s inp s t h

/-- The next state of REGS, where it has one. -/
theorem exec_regs_next (s t : State) (lv : RegsIn) (h : exec (.regs lv) s = .next t) :
    t = pulseWrites s lv (tickStep s (pulseBundle s lv)) := by
  rw [← composeTick_pulseWrites]
  exact runTick_next s _ _ t h

/-- A row alone answers the state with its writes, or the same state. -/
theorem fireRow_next (selected : Bool) (w : State → State) (s t : State) (h : fireRow selected w s = .next t) :
    selected = true ∧ t = w s ∨ selected = false ∧ t = s := by
  cases selected <;> (injection h with h; simp_all)

/-! ### Steps -/

/-- A step with a next state is a tick on the stored levels, a decoded instruction as the bus carries it, an access that
is not to the core, or a reset. -/
theorem step_next_cases (s t : State) (h : step s = .next t) :
    (s.events = [] ∧ exec (.regs (regLevels s)) s = .next t) ∨
    (∃ rest, s.events = .idle :: rest ∧ exec (.regs (regLevels s)) { s with events := rest } = .next t) ∨
    (∃ c rest i, s.events = .word c :: rest ∧ decode s.cfg c = .instr i ∧
      exec (onBus s.cfg i) { s with events := rest } = .next t) ∨
    (∃ c rest addr, s.events = .word c :: rest ∧ decode s.cfg c = .unmapped addr ∧
      t = { s with events := rest }) ∨
    (∃ rest, s.events = .reset :: rest ∧ t = State.initial s.cfg rest) := by
  unfold step fetch at h
  cases he : s.events with
  | nil =>
    rw [he] at h
    exact .inl ⟨rfl, h⟩
  | cons e rest =>
    rw [he] at h
    cases e with
    | idle => exact .inr (.inl ⟨rest, rfl, h⟩)
    | reset =>
      injection h with h
      exact .inr (.inr (.inr (.inr ⟨rest, rfl, h.symm⟩)))
    | word c =>
      cases hd : decode s.cfg c with
      | reserved _ => simp [hd, fetchDecoded] at h
      | unmapped addr =>
        exact .inr (.inr (.inr (.inl ⟨c, rest, addr, rfl, hd, by simpa [hd, fetchDecoded] using h.symm⟩)))
      | instr i => exact .inr (.inr (.inl ⟨c, rest, i, rfl, hd, by simpa [hd, fetchDecoded] using h⟩))

end Sys2Proof.Machine
end

