-- ==== Sys2Proof/Laws/Runs.lean ====
section
/-! SUPPORT. What a tick of a run and an action of a reading can answer (R197, R198, R57). -/

namespace Sys2Proof.Machine

/-! ### Ticks of a run -/

/-- The state a tick leaves, where it leaves one. -/
theorem tickNext_some (s t : State) (inp : TickIn) (h : tickNext s inp = some t) : t = tickStep s inp := by
  unfold tickNext execTick at h
  rcases runTick_cases s inp s with h' | ⟨u, _, _, h'⟩ <;> rw [h'] at h
  · exact (Option.some.inj h).symm
  · cases h

/-- A tick that runs leaves a state. -/
theorem tickNext_of_runs (s : State) (inp : TickIn) (h : tickRuns s inp) : tickNext s inp = some (tickStep s inp) := by
  unfold tickNext execTick
  rcases runTick_cases s inp s with h' | ⟨u, hp, hu, h'⟩ <;> rw [h']
  · rfl
  · rcases h with h | h
    · rw [hp] at h
      cases h
    · exact absurd ((isUnsettled_of_case s inp u hu).symm.trans (h u)) (by decide)

/-- A tick leaves no state exactly where it does not run. -/
theorem tickNext_none (s : State) (inp : TickIn) : tickNext s inp = none ↔ ¬tickRuns s inp := by
  constructor
  · intro h hr
    rw [tickNext_of_runs s inp hr] at h
    cases h
  · intro h
    unfold tickNext execTick
    rcases hp : s.cfg.unsettledPolicy with _ | _
    · exact absurd (.inl hp) h
    · cases hu : unsettledCase s inp with
      | none => exact absurd (.inr ((unsettledCase_none s inp).1 hu)) h
      | some u => simp [runTick, hp, hu]

/-! ### Readings -/

@[simp] theorem readStep_writeDone_cfg (s : State) (v : Nat) : (readStep s (.writeDone v)).cfg = s.cfg := rfl
@[simp] theorem readStep_writeDone_result (s : State) (v : Nat) : (readStep s (.writeDone v)).result = s.result := rfl
@[simp] theorem readStep_writeDone_valid (s : State) (v : Nat) : (readStep s (.writeDone v)).valid = s.valid := rfl
@[simp] theorem readStep_writeDone_flushPending (s : State) (v : Nat) :
    (readStep s (.writeDone v)).flushPending = s.flushPending := rfl
@[simp] theorem readStep_tick (s : State) (inp : TickIn) : readStep s (.tick inp) = tickStep s inp := rfl
@[simp] theorem readStep_part_cfg (s : State) (p : Nat) : (readStep s (.part p)).cfg = s.cfg := rfl
@[simp] theorem readStep_part_result (s : State) (p : Nat) : (readStep s (.part p)).result = s.result := rfl
@[simp] theorem readStep_part_valid (s : State) (p : Nat) : (readStep s (.part p)).valid = s.valid := rfl
@[simp] theorem readStep_part_flushPending (s : State) (p : Nat) :
    (readStep s (.part p)).flushPending = s.flushPending := rfl
@[simp] theorem readStep_part_readData (s : State) (p : Nat) :
    (readStep s (.part p)).readData = resultWord s.cfg s.result p := rfl

/-- A read and a write of `done` in a reading are the accesses RD_RESULT and WR_DONE. -/
theorem readStep_access (s : State) (n : Nat) :
    exec (.rdResult n) s = .next (readStep s (.part n)) ∧ exec (.wrDone n) s = .next (readStep s (.writeDone n)) :=
  ⟨rfl, rfl⟩

end Sys2Proof.Machine
end

