-- ==== Sys2Proof/Tests/Slice0.lean ====
section
/-! SUPPORT. The model's own tests. Expected values are those of spec/95_test_vectors.md (named by its own numbers W1, C1,
H5, …) or are worked out by hand from the rule named. The witness theorems show, for each statement that has hypotheses,
concrete data that meets them together. -/

namespace Sys2Proof.Tests

open Sys2Proof.Machine

/-! ### Helpers -/

/-- A part of the next state, where there is one. -/
def look {α : Type} (o : Host.Outcome State Fault Refusal) (f : State → α) : Option α :=
  match o with
  | .next t    => some (f t)
  | .fault _   => none
  | .refused _ => none

/-- The refusal, where there is one. -/
def whyNot (o : Host.Outcome State Fault Refusal) : Option Refusal :=
  match o with
  | .next _    => none
  | .fault _   => none
  | .refused r => some r

/-- What a function run alone gave. -/
def shown (i : Instr) (s : State) : Option Signal := look (exec i s) (·.signal)

/-- One value in all 16 entries of a bank, 0 in the other bank. -/
def inBank (b : Bank) (v : Sample) : Vector Sample 32 :=
  Vector.ofFn fun k => if k.val / 16 = bankNum b then v else 0

/-- `f 0`, …, `f (n-1)` in the first slots of bank 0, 0 elsewhere. -/
def firstSlots (n : Nat) (f : Nat → Sample) : Vector Sample 32 := Vector.ofFn fun k => if k.val < n then f k.val else 0

/-- `pair X, Y`, with `done` level 0. -/
def pairIn (xk yk : Sample) : TickIn := ⟨xk, yk, 0, true, false, false⟩

/-- `tick`, with an exponent and a `done` level. -/
def quietIn (e : Exponent) (lvl : Bool) : TickIn := ⟨0, 0, e, false, false, lvl⟩

/-- `flush`, with an exponent. -/
def flushIn (e : Exponent) : TickIn := ⟨0, 0, e, false, true, true⟩

def strobeCfg : Config := { Config.default with pulseSource := .writeStrobe }
def refuseCfg : Config := { Config.default with unsettledPolicy := .refuse }
def unmarkedCfg : Config := { Config.default with flushMarksProcessing := false }
def narrowCfg : Config := { Config.default with busWidth := 32 }
def narrowHighCfg : Config := { narrowCfg with resultWordOrder := .highFirst }
def sharedCfg : Config := { Config.default with csrAddr := Vector.replicate 8 0x40 }

/-! ### WellFormed -/

/-- The check refuses a data word that does not fit BUS_WIDTH, not the widest one that fits; what reaches the core of the
first is its low BUS_WIDTH bits. -/
theorem test_wellFormed_data :
    (Instr.wrXk (2 ^ 32)).wellFormed narrowCfg = false ∧ (Instr.wrYk (2 ^ 32)).wellFormed narrowCfg = false ∧
    (Instr.wrExp (2 ^ 32)).wellFormed narrowCfg = false ∧ (Instr.wrEnable (2 ^ 32)).wellFormed narrowCfg = false ∧
    (Instr.wrDone (2 ^ 32)).wellFormed narrowCfg = false ∧ (Instr.wrXk (2 ^ 32 - 1)).wellFormed narrowCfg = true ∧
    look (step { State.initial narrowCfg [] with events := [.word (.csr 0b1010 (2 ^ 32 + 3))] }) (·.expReg) =
      some 3 := by decide

/-- The check refuses a bus word of `result` that does not exist; words are counted modulo how many there are. -/
theorem test_wellFormed_part :
    (Instr.rdResult 1).wellFormed Config.default = false ∧ (Instr.rdResult 0).wellFormed Config.default = true ∧
    (Instr.rdResult 1).wellFormed narrowCfg = true ∧ (Instr.rdResult 2).wellFormed narrowCfg = false ∧
    look (step { State.reset with result := 384, events := [.word (.csr 0b0101 1)] }) (·.readData) = some 384 := by
  decide

/-! ### Decode, from words written out from R71 to R78 -/

/-- R71, every word. -/
theorem test_decode_exp3 : [0b000, 0b001, 0b010, 0b011, 0b100, 0b101, 0b110, 0b111].map
      (fun e : BitVec 3 => decode Config.default (.exp3 e 9)) =
    [.instr (.pow0 9), .instr (.pow1 9), .instr (.pow2 9), .instr (.pow3 9), .instr (.pow4 9), .instr (.powSent5 9),
      .instr (.powSent6 9), .instr (.powSent7 9)] := by decide

/-- R72, every word. -/
theorem test_decode_acpt3 : [0b000, 0b001, 0b010, 0b011, 0b100, 0b101, 0b110, 0b111].map
      (fun w : BitVec 3 => decode Config.default (.acpt3 w)) =
    [.instr (.noWrite false false), .instr (.noWrite false true), .instr (.noWrite true false),
      .instr (.noWrite true true), .instr .acceptWrite, .instr .acceptLast, .instr (.dropWrite false),
      .instr (.dropWrite true)] := by decide

/-- R73, every word. -/
theorem test_decode_drn2 : [0b00, 0b01, 0b10, 0b11].map (fun w : BitVec 2 => decode Config.default (.drn2 w)) =
    [.instr (.noDrain false), .instr (.noDrain true), .instr .drain, .instr .noDrainHeld] := by decide

/-- R74 and the table of L2.6, every word. -/
theorem test_decode_ctrl4 : [0b0000, 0b0001, 0b0010, 0b0011, 0b0100, 0b0101, 0b0110, 0b0111, 0b1000, 0b1111].map
      (fun w : BitVec 4 => decode Config.default (.ctrl4 w)) =
    [.instr .validClear, .instr .validHold, .instr (.flushDone false), .instr (.flushDone true),
      .instr (.flushStart false false), .instr (.flushStart false true), .instr (.flushStart true false),
      .instr (.flushStart true true), .instr (.acc false false false), .instr (.acc true true true)] := by decide

/-- R78, the eight access codes. -/
theorem test_decode_csr : [0b1000, 0b1001, 0b1010, 0b1011, 0b1100, 0b0101, 0b0110, 0b0111].map
      (fun c : BitVec 4 => decode Config.default (.csr c 0)) =
    [.instr (.wrXk 0), .instr (.wrYk 0), .instr (.wrExp 0), .instr (.wrEnable 0), .instr (.wrDone 0),
      .instr (.rdResult 0), .instr .rdValid, .instr .rdBusy] := by decide

/-- R79, the eight reserved codes (H15, H16). -/
theorem test_decode_reserved : [0b0000, 0b0001, 0b0010, 0b0011, 0b0100, 0b1101, 0b1110, 0b1111].map
      (fun c : BitVec 4 => decode Config.default (.csr c 0)) =
    [.reserved 0, .reserved 1, .reserved 2, .reserved 3, .reserved 4, .reserved 13, .reserved 14, .reserved 15] ∧
    whyNot (step { State.reset with events := [.word (.csr 0b0000 0)] }) = some (.reservedAccess 0b0000) ∧
    whyNot (step { State.reset with events := [.word (.csr 0b1101 0)] }) = some (.reservedAccess 0b1101) := by decide

/-- R76: the encodings of P1's ticks 0, 18 and 19. -/
theorem test_decode_tick :
    decode Config.default (.tick 0x0B0000000300000002) = .instr (.tick ⟨2, 3, 3, true, false, false⟩) ∧
    decode Config.default (.tick 0x330000000300000002) = .instr (.tick ⟨2, 3, 3, false, true, true⟩) ∧
    decode Config.default (.tick 0x230000000300000002) = .instr (.tick ⟨2, 3, 3, false, false, true⟩) := by decide

/-- R77: the REGS values of P2's ticks 0 and 11. -/
theorem test_decode_regs :
    decode Config.default (.regs 0x0A0000000100000001) = .instr (.regs ⟨1, 1, 2, true, false⟩) ∧
    decode Config.default (.regs 0x120000000100000005) = .instr (.regs ⟨5, 1, 2, false, true⟩) := by decide

/-- R75: the functions of format COMB. -/
theorem test_decode_comb :
    decode Config.default (.comb (.mul 8 3)) = .instr (.mul 8 3) ∧
    decode Config.default (.comb (.lane .one 2 3)) = .instr (.lane .one 2 3) ∧
    decode Config.default (.comb (.tree (Vector.replicate 16 1))) = .instr (.tree (Vector.replicate 16 1)) ∧
    decode Config.default (.comb (.bankSum .zero 2)) = .instr (.bankSum .zero 2) ∧
    decode Config.default (.comb .busy) = .instr .busy ∧ decode Config.default (.comb .pulse) = .instr .pulse := by
  decide

/-- A bare word, and the step that runs it first after reset (log entry 12). -/
theorem test_bare_words :
    decodeTableWord 8 0b011 = some (.pow3 0) ∧ decodeTableWord 8 0b1010 = some (.wrExp 0) ∧
    decodeTableWord 72 0x330000000300000002 = some (.tick ⟨2, 3, 3, false, true, true⟩) ∧
    decodeTableWord 8 0b1101 = none ∧
    look (step (State.reset.withFetchWord 8 0b011)) (·.signal) = some (.value 0) := by decide

/-! ### PowerUnit (L2.1) and Multiplier (L2.2) -/

theorem test_pow0 : shown (.pow0 0) State.reset = some (.value 1) ∧
    shown (.pow0 0xFFFFFFFF) State.reset = some (.value 1) := by decide

theorem test_pow1 : shown (.pow1 0xFFFFFFFF) State.reset = some (.value 0xFFFFFFFF) := by decide

theorem test_pow2 : shown (.pow2 0xFFFFFFFF) State.reset = some (.value 0xFFFFFFFE00000001) ∧
    shown (.pow2 0x100000000) State.reset = some (.value 0) := by decide

theorem test_pow3 : shown (.pow3 0xFFFFFFFF) State.reset = some (.value 0x2FFFFFFFF) ∧
    shown (.pow3 3) State.reset = some (.value 0x1B) := by decide

theorem test_pow4 : shown (.pow4 0xFFFFFFFF) State.reset = some (.value 0xFFFFFFFC00000001) ∧
    shown (.pow4 0x10000) State.reset = some (.value 0) := by decide

theorem test_powSent5 : shown (.powSent5 0) State.reset = some (.value 0x7FC00000) := by decide

theorem test_powSent6 : shown (.powSent6 2) State.reset = some (.value 0x7FC00000) := by decide

theorem test_powSent7 : shown (.powSent7 0xFFFFFFFF) State.reset = some (.value 0x7FC00000) := by decide

theorem test_mul : shown (.mul 0xFFFFFFFE00000001 0xFFFFFFFF) State.reset = some (.value 0x2FFFFFFFF) ∧
    shown (.mul 0x7FC00000 0xFFFFFFFF) State.reset = some (.value 0x7FBFFFFF80400000) := by decide

/-! ### Lanes, tree, bank sum (L2.3) -/

theorem test_lane :
    shown (.lane .one 0 3) { State.reset with x := inBank .one 2, y := inBank .one 3 } = some (.value 24) ∧
    shown (.lane .zero 5 0) { State.reset with y := inBank .zero 7 } = some (.value 7) ∧
    shown (.lane .zero 5 6) { State.reset with x := inBank .zero 9 } = some (.value 0) := by decide

theorem test_tree :
    shown (.tree (Vector.ofFn fun i => BitVec.ofNat 64 (i.val + 1))) State.reset = some (.value 136) ∧
    shown (.tree (Vector.replicate 16 0x8000000000000000)) State.reset = some (.value 0) := by decide

/-- The partial bank of L2.3. -/
theorem test_bankSum_partial :
    shown (.bankSum .zero 2) { State.reset with
      x := firstSlots 5 fun i => BitVec.ofNat 32 (i + 1)
      y := firstSlots 5 fun _ => 1 } = some (.value 55) := by decide

/-- 16 sentinel lanes of L2.3. -/
theorem test_bankSum_sentinel :
    shown (.bankSum .zero 7) { State.reset with x := inBank .zero 5, y := inBank .zero 0xFFFFFFFF } =
      some (.value 0xFBFFFFF804000000) := by decide

/-- L2.8. -/
theorem test_busy :
    shown .busy { State.reset with processing := ⟨true, true⟩ } = some (.value 1) ∧
    shown .busy { State.reset with processing := ⟨true, false⟩ } = some (.value 0) ∧
    shown .busy { State.reset with processing := ⟨false, true⟩ } = some (.value 0) := by decide

/-! ### The write path (L2.4), in a tick and alone -/

/-- W2, with W8's rule that one processing bank is not busy. -/
theorem test_tick_acceptWrite :
    look (exec (.tick (pairIn 9 4)) { State.reset with writeCursor := 7, awb := .one, processing := ⟨true, false⟩ })
      (fun t => (t.x[23], t.y[23], t.writeCursor)) = some (9, 4, 8) := by decide

/-- W1 alone: the pair is that of the registers. -/
theorem test_row_acceptWrite :
    look (exec .acceptWrite { State.reset with xkVal := 2, ykVal := 3 })
      (fun t => (t.x[0], t.y[0], t.writeCursor)) = some (2, 3, 1) := by decide

/-- W4. -/
theorem test_tick_acceptLast :
    look (exec (.tick (pairIn 1 1)) { State.reset with writeCursor := 15, awb := .one })
      (fun t => (t.x[31], t.y[31], t.writeCursor, t.full, t.awb)) = some (1, 1, 0, ⟨false, true⟩, .zero) := by decide

/-- W3 alone. -/
theorem test_row_acceptLast :
    look (exec .acceptLast { State.reset with writeCursor := 15, xkVal := 2, ykVal := 3 })
      (fun t => (t.x[15], t.y[15], t.writeCursor, t.full, t.awb)) = some (2, 3, 0, ⟨true, false⟩, .one) := by decide

/-- W6: no bank switch and no `full`. -/
theorem test_tick_dropWrite :
    look (exec (.tick (pairIn 9 9)) { State.reset with writeCursor := 15, processing := ⟨true, true⟩ })
      (fun t => (t.x[15], t.writeCursor, t.full, t.awb)) = some (0, 15, ⟨false, false⟩, .zero) := by decide

theorem test_row_dropWrite :
    exec (.dropWrite true) { State.reset with writeCursor := 15, processing := ⟨true, true⟩ } =
      .next { State.reset with writeCursor := 15, processing := ⟨true, true⟩ } := rfl

/-- W7. -/
theorem test_tick_noWrite :
    look (exec (.tick ⟨5, 6, 0, false, false, false⟩) { State.reset with writeCursor := 4 })
      (fun t => (t.x[4], t.y[4], t.writeCursor)) = some (0, 0, 4) := by decide

theorem test_row_noWrite : exec (.noWrite true false) State.reset = .next State.reset := rfl

/-! ### The drain decision (L2.5), in a tick and alone -/

/-- D2. -/
theorem test_tick_drain :
    look (exec (.tick (quietIn 0 false)) { State.reset with full := ⟨false, true⟩ })
      (fun t => (t.full, t.processing, t.startSum)) = some (⟨false, false⟩, ⟨false, true⟩, true) := by decide

/-- D1 alone. -/
theorem test_row_drain :
    look (exec .drain { State.reset with awb := .one, full := ⟨true, false⟩ })
      (fun t => (t.full, t.processing, t.startSum)) = some (⟨false, false⟩, ⟨true, false⟩, true) := by decide

/-- D4: the active bank's flag makes no drain. -/
theorem test_tick_noDrain :
    look (exec (.tick (quietIn 0 false)) { State.reset with awb := .one, full := ⟨false, true⟩ })
      (fun t => (t.full, t.startSum)) = some (⟨false, true⟩, false) := by decide

/-- D6 alone. -/
theorem test_row_noDrain :
    look (exec (.noDrain true) { State.reset with awb := .one, processing := ⟨true, false⟩, startSum := true })
      (·.startSum) = some false := by decide

/-- D5. -/
theorem test_tick_noDrainHeld :
    look (exec (.tick (quietIn 0 false)) { State.reset with awb := .one, full := ⟨true, false⟩, processing := ⟨true, false⟩ })
      (fun t => (t.full, t.startSum)) = some (⟨true, false⟩, false) := by decide

theorem test_row_noDrainHeld :
    look (exec .noDrainHeld { State.reset with
        awb := .one, full := ⟨true, false⟩, processing := ⟨true, false⟩, startSum := true })
      (fun t => (t.full, t.startSum)) = some (⟨true, false⟩, false) := by decide

/-! ### The control chain (L2.6), in a tick and alone -/

/-- The state of C1. -/
def fullBankState : State :=
  { State.reset with
    x := inBank .zero 2, y := inBank .zero 3, awb := .one, processing := ⟨true, false⟩, startSum := true, expReg := 3 }

/-- C1. -/
theorem test_tick_acc :
    look (exec (.tick (quietIn 3 false)) fullBankState)
      (fun t => (t.accumulator, t.y[0], t.y[15], t.x[15], t.processing)) = some (384, 0, 0, 2, ⟨false, false⟩) := by
  decide

/-- C1 alone, at the `exp` level. -/
theorem test_row_acc :
    look (exec (.acc true true true) fullBankState)
      (fun t => (t.accumulator, t.y[0], t.y[15], t.x[15], t.flushPending)) = some (384, 0, 0, 2, false) := by decide

/-- C2 and C3. -/
theorem test_tick_flushStart :
    look (exec (.tick (flushIn 3)) { State.reset with awb := .one, accumulator := 384 })
      (fun t => (t.awb, t.flushPending, t.processing, t.accumulator)) = some (.zero, true, ⟨false, true⟩, 384) ∧
    look (exec (.tick (flushIn 3)) { State.reset with cfg := unmarkedCfg, awb := .one })
      (fun t => (t.awb, t.flushPending, t.processing)) = some (.zero, true, ⟨false, false⟩) := by decide

/-- C2 alone. -/
theorem test_row_flushStart :
    look (exec (.flushStart false true) { State.reset with awb := .one, writeCursor := 5 })
      (fun t => (t.awb, t.flushPending, t.processing, t.writeCursor)) = some (.zero, true, ⟨false, true⟩, 5) := by decide

/-- The state of C5. -/
def partialBankState : State :=
  { State.reset with
    x := firstSlots 5 fun i => BitVec.ofNat 32 (i + 1)
    y := firstSlots 5 fun _ => 1
    awb := .one, writeCursor := 5, flushPending := true, processing := ⟨true, false⟩, expReg := 2 }

/-- C5. -/
theorem test_tick_flushDone :
    look (exec (.tick (quietIn 2 true)) partialBankState)
      (fun t => (t.result, t.valid, t.writeCursor, t.y[4], t.flushPending, t.processing)) =
      some (55, true, 0, 1, false, ⟨false, false⟩) := by decide

/-- C4 alone. -/
theorem test_row_flushDone :
    look (exec (.flushDone true) { State.reset with flushPending := true, accumulator := 384, processing := ⟨false, true⟩ })
      (fun t => (t.result, t.valid, t.accumulator, t.processing, t.flushPending)) =
      some (384, true, 0, ⟨false, false⟩, false) := by decide

/-- C7. -/
theorem test_tick_validClear :
    look (exec (.tick (quietIn 0 false)) { State.reset with valid := true, result := 384 })
      (fun t => (t.valid, t.result)) = some (false, 384) := by decide

theorem test_row_validClear :
    look (exec .validClear { State.reset with valid := true, result := 384 }) (fun t => (t.valid, t.result)) =
      some (false, 384) := by decide

/-- C8 and C9. -/
theorem test_tick_validHold :
    look (exec (.tick (quietIn 0 true)) { State.reset with valid := true }) (·.valid) = some true ∧
    look (exec (.tick (quietIn 0 true)) State.reset) (·.valid) = some false := by decide

theorem test_row_validHold :
    exec .validHold { State.reset with valid := true } = .next { State.reset with valid := true } := rfl

/-! ### Composition (L2.7) -/

/-- T1: one toggle, not two. -/
theorem test_tick_oneToggle :
    look (exec (.tick ⟨1, 1, 0, true, true, true⟩) { State.reset with writeCursor := 15 })
      (fun t => (t.x[15], t.full, t.awb, t.flushPending, t.processing)) =
      some (1, ⟨true, false⟩, .one, true, ⟨true, false⟩) := by decide

/-- T2: DRAIN's set wins over ACC's clear. -/
theorem test_tick_drainOverAcc :
    look (exec (.tick (quietIn 1 false)) { State.reset with
        x := inBank .one 1, y := inBank .one 1, startSum := true, full := ⟨false, true⟩ })
      (fun t => (t.accumulator, t.y[16], t.full, t.processing, t.startSum)) =
      some (16, 0, ⟨false, false⟩, ⟨false, true⟩, true) := by decide

/-- T3: FLUSH_DONE's clear wins over DRAIN's set. -/
theorem test_tick_flushDoneOverDrain :
    look (exec (.tick (quietIn 0 true)) { State.reset with flushPending := true, awb := .one, full := ⟨true, false⟩ })
      (fun t => (t.valid, t.full, t.processing, t.startSum)) = some (true, ⟨false, false⟩, ⟨false, false⟩, true) := by
  decide

/-- T4: the cursor's reset wins. -/
theorem test_tick_resetOverIncrement :
    look (exec (.tick (pairIn 7 1)) { State.reset with flushPending := true, awb := .one, writeCursor := 3 })
      (fun t => (t.x[19], t.y[19], t.writeCursor)) = some (7, 1, 0) := by decide

/-- T5: ACC and ACCEPT_WRITE in different banks. -/
theorem test_tick_accAndWrite :
    look (exec (.tick (pairIn 6 1)) { fullBankState with writeCursor := 2 })
      (fun t => (t.x[18], t.y[18], t.y[0], t.y[15], t.writeCursor)) = some (6, 1, 0, 0, 3) := by decide

/-- R197: each predicate refuses under REFUSE (the ticks of U1 to U5). -/
theorem test_tick_refused :
    whyNot (exec (.tick (flushIn 0)) { State.reset with cfg := refuseCfg, full := ⟨false, true⟩ }) =
      some (.unsettledTick .u1) ∧
    whyNot (exec (.tick (flushIn 0)) { State.reset with cfg := refuseCfg, startSum := true }) =
      some (.unsettledTick .u2) ∧
    whyNot (exec (.tick ⟨5, 1, 0, true, true, true⟩) { State.reset with cfg := refuseCfg }) =
      some (.unsettledTick .u3) ∧
    whyNot (exec (.tick (pairIn 7 1)) { State.reset with cfg := refuseCfg, flushPending := true }) =
      some (.unsettledTick .u4) ∧
    whyNot (exec (.tick (flushIn 0)) { State.reset with cfg := refuseCfg, flushPending := true }) =
      some (.unsettledTick .u5) := by decide

/-! ### Pulses (L2.10) -/

/-- Ticks 1 and 2 of L2.10's table. -/
theorem test_pulse_risingEdge :
    look (exec .pulse { State.reset with enableReg := true, xkVal := 7 }) (fun t => (t.signal, t.enableQ)) =
      some (.bundle ⟨7, 0, 0, true, false, false⟩, true) ∧
    look (exec .pulse { State.reset with enableReg := true, enableQ := true }) (fun t => (t.signal, t.enableQ)) =
      some (.bundle ⟨0, 0, 0, false, false, false⟩, true) := by decide

/-- A write of 0 to `enable` pulses under WRITE_STROBE, once. -/
theorem test_pulse_writeStrobe :
    look (exec .pulse { State.reset with cfg := strobeCfg, enableStrobe := true }) (fun t => (t.signal, t.enableStrobe)) =
      some (.bundle ⟨0, 0, 0, true, false, false⟩, false) := by decide

/-- A REGS tick with `enable` and `done` rising: en_re stores the pair, done_re starts a flush. -/
theorem test_regs :
    look (exec (.regs ⟨2, 3, 1, true, false⟩) State.reset) (fun t => (t.x[0], t.y[0], t.writeCursor, t.enableQ, t.doneQ)) =
      some (2, 3, 1, true, false) ∧
    look (exec (.regs ⟨2, 3, 1, true, true⟩) { State.reset with enableQ := true })
      (fun t => (t.x[0], t.flushPending, t.enableQ, t.doneQ)) = some (0, true, true, true) := by decide

/-- R223: a `done` level of 1 at tick 0, from the stored levels, starts a flush. -/
theorem test_idle_tick :
    look (step { State.reset with doneReg := true }) (fun t => (t.flushPending, t.doneQ)) = some (true, true) := by decide

/-! ### Host register operations (L2.11) -/

/-- H1 and H2. -/
theorem test_wrXk : look (exec (.wrXk 2) State.reset) (·.xkVal) = some 2 ∧
    look (exec (.wrXk 0x100000005) State.reset) (·.xkVal) = some 5 := by decide

/-- H3. -/
theorem test_wrYk : look (exec (.wrYk 0) { State.reset with ykVal := 9 }) (·.ykVal) = some 0 := by decide

/-- H5 and H6. -/
theorem test_wrExp : look (exec (.wrExp 9) State.reset) (·.expReg) = some 1 ∧
    look (exec (.wrExp 6) State.reset) (·.expReg) = some 6 := by decide

/-- H9 under either PULSE_SOURCE. -/
theorem test_wrEnable :
    look (exec (.wrEnable 2) { State.reset with enableReg := true }) (fun t => (t.enableReg, t.enableStrobe)) =
      some (false, false) ∧
    look (exec (.wrEnable 2) (State.initial strobeCfg [])) (fun t => (t.enableReg, t.enableStrobe)) =
      some (false, true) := by decide

/-- H10. -/
theorem test_wrDone : look (exec (.wrDone 1) State.reset) (fun t => (t.doneReg, t.doneStrobe)) = some (true, false) ∧
    look (exec (.wrDone 0) (State.initial strobeCfg [])) (fun t => (t.doneReg, t.doneStrobe)) = some (false, true) := by
  decide

/-- H11. -/
theorem test_rdResult_whole : look (exec (.rdResult 0) { State.reset with result := 384 }) (·.readData) = some 0x180 := by
  decide

/-- R54: in two words, low first and high first. -/
theorem test_rdResult_parts :
    look (exec (.rdResult 1) { State.initial narrowCfg [] with result := 0x1234567800000009 }) (·.readData) =
      some 0x12345678 ∧
    look (exec (.rdResult 1) { State.initial narrowHighCfg [] with result := 0x1234567800000009 }) (·.readData) =
      some 9 := by decide

/-- H13. -/
theorem test_rdValid : look (exec .rdValid { State.reset with readData := 5 }) (·.readData) = some 0 ∧
    look (exec .rdValid { State.reset with valid := true }) (·.readData) = some 1 := by decide

/-- H14. -/
theorem test_rdBusy : look (exec .rdBusy { State.reset with processing := ⟨true, true⟩ }) (·.readData) = some 1 ∧
    look (exec .rdBusy State.reset) (·.readData) = some 0 := by decide

/-- An access by address is the access by index (R59); an address of no register is no access to
the core. -/
theorem test_bus_access :
    look (step { State.reset with events := [.word (.bus true 2 9)] }) (·.expReg) = some 1 ∧
    step { State.reset with events := [.word (.bus true 8 9)] } = .next State.reset := by
  refine ⟨by decide, rfl⟩

/-- R222: a reset between two ticks. -/
theorem test_reset_event :
    step { partialBankState with events := [.reset, .idle] } = .next (State.initial Config.default [.idle]) := rfl

/-- The first lines of P1 (R84) and the encodings the spec gives of them. -/
theorem test_script :
    (assemble scriptStart ({ tickLine with xk := some 2, yk := some 3, exp := some 3, en := true } :: pairLine 2 3 ::
      idleLines 1 ++ [flushLine, tickLine])).map packTick =
    [0x0B0000000300000002, 0x0B0000000300000002, 0x030000000300000002, 0x330000000300000002, 0x230000000300000002] := by
  decide

/-! ### Witnesses: data that meets the hypotheses of each statement, clause by clause, at the ends of its range -/

/-- StepRunsTheDecodedInstruction. -/
theorem witness_step_runs :
    ({ State.reset with events := [.word (.exp3 3 2)] } : State).events = .word (.exp3 3 2) :: [] ∧
    decode Config.default (.exp3 3 2) = .instr (.pow3 2) ∧ (Instr.pow3 2).wellFormed Config.default = true ∧
    ({ State.reset with events := [.word (.csr 0b1000 (2 ^ 64 - 1))] } : State).events =
      .word (.csr 0b1000 (2 ^ 64 - 1)) :: [] ∧
    decode Config.default (.csr 0b1000 (2 ^ 64 - 1)) = .instr (.wrXk (2 ^ 64 - 1)) ∧
    (Instr.wrXk (2 ^ 64 - 1)).wellFormed Config.default = true ∧
    decode Config.default (.csr 0b1000 (2 ^ 64)) = .instr (.wrXk (2 ^ 64)) ∧
    (Instr.wrXk (2 ^ 64)).wellFormed Config.default = false := by decide

/-- StepTicksWhenTheHostIsIdle, its three clauses. -/
theorem witness_step_idle : State.reset.events = [] ∧
    ({ State.reset with events := [.idle] } : State).events = .idle :: [] ∧
    ({ State.reset with events := [.reset, .idle] } : State).events = .reset :: [.idle] := by decide

/-- ReservedRegisterCodesAreRefused: the codes at the ends of both ranges, and those next to them. -/
theorem witness_reserved_codes :
    ((0 : BitVec 4).toNat ≤ 4 ∨ 13 ≤ (0 : BitVec 4).toNat) ∧ ((4 : BitVec 4).toNat ≤ 4 ∨ 13 ≤ (4 : BitVec 4).toNat) ∧
    ((13 : BitVec 4).toNat ≤ 4 ∨ 13 ≤ (13 : BitVec 4).toNat) ∧ ((15 : BitVec 4).toNat ≤ 4 ∨ 13 ≤ (15 : BitVec 4).toNat) ∧
    ¬((5 : BitVec 4).toNat ≤ 4 ∨ 13 ≤ (5 : BitVec 4).toNat) ∧ ¬((12 : BitVec 4).toNat ≤ 4 ∨ 13 ≤ (12 : BitVec 4).toNat) ∧
    ({ State.reset with events := [.word (.csr 4 0)] } : State).events = .word (.csr 4 0) :: [] := by decide

/-- BusAddressResolvesToItsRegister: registers 0 and 7 at the default addresses, register 0 where all share one address,
and an address of no register. -/
theorem witness_bus_address :
    (Config.default.csrAddr[(0 : Fin 8)] = 0 ∧ ∀ q : Fin 8, q < 0 → Config.default.csrAddr[q] ≠ 0) ∧
    (Config.default.csrAddr[(7 : Fin 8)] = 7 ∧ ∀ q : Fin 8, q < 7 → Config.default.csrAddr[q] ≠ 7) ∧
    (sharedCfg.csrAddr[(0 : Fin 8)] = 0x40 ∧ ∀ q : Fin 8, q < 0 → sharedCfg.csrAddr[q] ≠ 0x40) ∧
    (({ State.reset with events := [.word (.bus true 8 0)] } : State).events = .word (.bus true 8 0) :: [] ∧
      ∀ q : Fin 8, Config.default.csrAddr[q] ≠ 8) := by decide

/-- PowerUnitComputesPowers: the exponents at the ends of both ranges. -/
theorem witness_exponents : (0 : Exponent).toNat ≤ 4 ∧ (4 : Exponent).toNat ≤ 4 ∧ 4 < (5 : Exponent).toNat ∧
    4 < (7 : Exponent).toNat := by decide

/-- LaneIsPowerTimesSample: a zero Y entry, in the first and the last slot. -/
theorem witness_zero_sample : yAt State.reset (slot .zero 0) = 0 ∧ yAt State.reset (slot .one 15) = 0 := by decide

/-- BusyIsBothBanksProcessing: both cases, and the state of `busy` that a tick drops its pair in. -/
theorem witness_busy :
    ({ State.reset with processing := ⟨true, true⟩ } : State).processing = ⟨true, true⟩ ∧
    State.reset.processing ≠ ⟨true, true⟩ ∧
    ({ State.reset with processing := ⟨true, false⟩ } : State).processing ≠ ⟨true, true⟩ ∧
    ({ State.reset with processing := ⟨false, true⟩ } : State).processing ≠ ⟨true, true⟩ := by decide

/-- AcceptRowsStoreThePair: cursors 0 and 14, and 15. -/
theorem witness_accept_rows : busy State.reset = false ∧ State.reset.writeCursor ≠ 15 ∧
    ({ State.reset with writeCursor := 14 } : State).writeCursor ≠ 15 ∧
    ({ State.reset with writeCursor := 15 } : State).writeCursor = 15 ∧
    busy { State.reset with writeCursor := 15 } = false := by decide

/-- DrainRowsMoveTheBankFlags, its three clauses. -/
theorem witness_drain_rows :
    (getFlag ({ State.reset with full := ⟨false, true⟩ } : State).full (drainBank State.reset) = true ∧
      getFlag State.reset.processing (drainBank State.reset) = false) ∧
    getFlag State.reset.full (drainBank State.reset) = false ∧
    (getFlag ({ State.reset with full := ⟨false, true⟩, processing := ⟨false, true⟩ } : State).full .one = true ∧
      getFlag ({ State.reset with full := ⟨false, true⟩, processing := ⟨false, true⟩ } : State).processing .one = true ∧
      drainBank { State.reset with full := ⟨false, true⟩, processing := ⟨false, true⟩ } = .one) := by decide

/-- AccRowFoldsTheDrainBank and FlushRowsRunTheProtocol, its clauses with `flush_pending` 1 and 0. -/
theorem witness_chain_rows : fullBankState.startSum = true ∧ partialBankState.startSum = false ∧
    partialBankState.flushPending = true ∧ State.reset.startSum = false ∧ State.reset.flushPending = false := by decide

/-- UnselectedRowsWriteNothing, its nine clauses. -/
theorem witness_unselected_rows :
    busy { State.reset with processing := ⟨true, true⟩ } = true ∧
    ({ State.reset with writeCursor := 15 } : State).writeCursor = 15 ∧ State.reset.writeCursor ≠ 15 ∧
    drainSignal State.reset = false ∧ getFlag ({ State.reset with full := ⟨false, true⟩ } : State).full .one = true ∧
    drainBank { State.reset with full := ⟨false, true⟩ } = .one ∧ getFlag State.reset.full (drainBank State.reset) = false ∧
    getFlag ({ State.reset with full := ⟨false, true⟩ } : State).processing .one = false ∧
    State.reset.startSum = false ∧ fullBankState.startSum = true ∧ State.reset.flushPending = false ∧
    partialBankState.flushPending = true := by decide

/-- The hypotheses on an accepting tick (TickStoresAnAcceptedPair, TickFillsABank): cursors 0, 14 and 15. -/
theorem witness_accepting_ticks :
    (tickRuns State.reset (pairIn 2 3) ∧ (pairIn 2 3).enRe = true ∧ busy State.reset = false ∧
      State.reset.writeCursor ≠ 15) ∧
    (tickRuns { partialBankState with writeCursor := 14 } (pairIn 2 3) ∧
      busy { partialBankState with writeCursor := 14 } = false ∧
      ({ partialBankState with writeCursor := 14 } : State).writeCursor ≠ 15) ∧
    (tickRuns { State.reset with cfg := refuseCfg, writeCursor := 15 } (pairIn 2 3) ∧
      busy { State.reset with cfg := refuseCfg, writeCursor := 15 } = false ∧
      ({ State.reset with cfg := refuseCfg, writeCursor := 15 } : State).writeCursor = 15) :=
  ⟨⟨.inl rfl, rfl, rfl, by decide⟩, ⟨.inl rfl, rfl, by decide⟩, .inr fun u => by cases u <;> rfl, rfl, rfl⟩

/-- TickStoresNothingWithoutAnAcceptedPulse and SampleLevelsAreIgnoredWithoutAPulse: no pulse, and a dropped one. -/
theorem witness_no_accepted_pulse :
    (tickRuns State.reset (quietIn 0 false) ∧ (quietIn 0 false).enRe = false) ∧
    (tickRuns { State.reset with processing := ⟨true, true⟩ } (pairIn 9 9) ∧ (pairIn 9 9).enRe = true ∧
      busy { State.reset with processing := ⟨true, true⟩ } = true) :=
  ⟨⟨.inl rfl, rfl⟩, .inl rfl, rfl, rfl⟩

/-- TickDrainsAFullBank: a tick that drains, one that drains while FLUSH_DONE fires, and the two that do not. -/
theorem witness_draining_ticks :
    tickRuns { State.reset with full := ⟨false, true⟩ } (quietIn 0 false) ∧
    drainSignal { State.reset with full := ⟨false, true⟩ } = true ∧
    (drainSignal { State.reset with full := ⟨false, true⟩, flushPending := true } = true ∧
      isFlushDoneTick { State.reset with full := ⟨false, true⟩, flushPending := true } (quietIn 0 false) = true) ∧
    drainSignal State.reset = false ∧
    drainSignal { State.reset with full := ⟨false, true⟩, processing := ⟨false, true⟩ } = false :=
  ⟨.inl rfl, rfl, ⟨rfl, rfl⟩, rfl, rfl⟩

/-- ControlChainPriority, AccTickFoldsTheDrainBank, FlushStartTickSwitchesBanks, FlushDoneTickPublishes and
IdleTickClearsOrHoldsValid: one tick for each branch; the ACC tick with a done pulse, the FLUSH_START one of U5. -/
theorem witness_chain_ticks :
    (tickRuns fullBankState (flushIn 3) ∧ fullBankState.startSum = true ∧ (flushIn 3).doneRe = true) ∧
    (tickRuns partialBankState (flushIn 2) ∧ partialBankState.startSum = false ∧ (flushIn 2).doneRe = true ∧
      partialBankState.flushPending = true) ∧
    (tickRuns partialBankState (quietIn 2 true) ∧ (quietIn 2 true).doneRe = false) ∧
    (State.reset.startSum = false ∧ State.reset.flushPending = false ∧ (quietIn 0 false).doneRe = false ∧
      (quietIn 0 false).doneLvl = false ∧ (quietIn 0 true).doneLvl = true ∧
      acceptSignal State.reset (quietIn 0 true) = false) :=
  ⟨⟨.inl rfl, rfl, rfl⟩, ⟨.inl rfl, rfl, rfl, rfl⟩, ⟨.inl rfl, rfl⟩, rfl, rfl, rfl, rfl, rfl, rfl⟩

/-- OverlappingWritesResolve, OtherWritesLandApart and TickIsTheGatheredStep: a tick runs under REFERENCE though U3 holds
of it, and under REFUSE where none does. -/
theorem witness_tick_runs :
    (tickRuns State.reset ⟨1, 1, 0, true, true, true⟩ ∧
      isUnsettled State.reset ⟨1, 1, 0, true, true, true⟩ .u3 = true) ∧
    tickRuns (State.initial refuseCfg []) (pairIn 1 1) :=
  ⟨⟨.inl rfl, rfl⟩, .inr fun u => by cases u <;> rfl⟩

/-- UnsettledTicksFollowThePolicy: its clauses under REFUSE, with and without an unsettled case, and under REFERENCE. -/
theorem witness_unsettled :
    (refuseCfg.unsettledPolicy = .refuse ∧ ∃ u, isUnsettled { fullBankState with cfg := refuseCfg } (flushIn 0) u = true) ∧
    (∀ u, isUnsettled (State.initial refuseCfg []) (pairIn 1 1) u = false) ∧
    State.reset.cfg.unsettledPolicy = .reference :=
  ⟨⟨rfl, .u2, rfl⟩, fun u => by cases u <;> rfl, rfl⟩

/-- The clauses of UnsettledTicksFollowThePolicy on runs: a run with an end state and a value published, by hand 3·1 at
exponent 1 (R198); and under REFUSE a run that meets U2 at its second tick. -/
theorem witness_runs :
    observeRun State.reset [pairIn 3 1, flushIn 1, quietIn 1 true] =
      some [⟨0, false, false⟩, ⟨0, false, false⟩, ⟨0, false, false⟩, ⟨3, true, false⟩] ∧
    publishedValue (runTicks State.reset [pairIn 3 1, flushIn 1]) (quietIn 1 true) = some 3 ∧
    (runEnd State.reset [pairIn 3 1, flushIn 1, quietIn 1 true]).isSome = true ∧
    runEnd { fullBankState with cfg := refuseCfg, processing := ⟨false, false⟩ } [flushIn 1] = none := by decide

/-- A run is settled after its flush and not before (R198). -/
theorem test_settled_run :
    settledRun State.reset [pairIn 3 1, flushIn 1, quietIn 1 true] ∧ ¬settledRun State.reset [pairIn 3 1, flushIn 1] := by
  refine ⟨⟨_, rfl, rfl, by decide⟩, ?_⟩
  rintro ⟨t, h, _, h'⟩
  injection h with h
  subst h
  revert h'
  decide

/-- PulseDerivesTheBundle and RegsRunsThePulsedTick, under either PULSE_SOURCE. -/
theorem witness_pulse_sources :
    (State.reset.cfg.pulseSource = .risingEdge ∧ tickRuns State.reset (pulseBundle State.reset ⟨2, 3, 0, true, false⟩)) ∧
    ((State.initial strobeCfg []).cfg.pulseSource = .writeStrobe ∧
      tickRuns (State.initial strobeCfg []) (pulseBundle (State.initial strobeCfg []) ⟨2, 3, 0, true, false⟩)) :=
  ⟨⟨rfl, .inl rfl⟩, rfl, .inl rfl⟩

/-- PulsesAreConsumedOnce: a REGS tick with a level of 1 and one with 0 under RISING_EDGE, and one after two writes under
WRITE_STROBE, have a next state. -/
theorem witness_consumed_pulses :
    (∃ t, exec (.regs ⟨2, 3, 1, true, true⟩) State.reset = .next t) ∧
    (∃ t, exec (.regs ⟨2, 3, 1, false, false⟩) State.reset = .next t) ∧
    ({ State.initial strobeCfg [] with enableReg := true, enableStrobe := true } : State).cfg.pulseSource = .writeStrobe ∧
    ∃ a, exec (.regs ⟨2, 3, 1, true, true⟩) { State.initial strobeCfg [] with enableStrobe := true, doneStrobe := true } =
      .next a :=
  ⟨⟨_, rfl⟩, ⟨_, rfl⟩, rfl, _, rfl⟩

/-- RegisterWritesKeepTheLowBits and WrittenLevelsReachTheNextTick: both PULSE_SOURCEs, the history bits 0, odd words. -/
theorem witness_register_writes : State.reset.cfg.pulseSource = .risingEdge ∧
    (State.initial strobeCfg []).cfg.pulseSource = .writeStrobe ∧ State.reset.enableQ = false ∧
    State.reset.doneQ = false ∧ 1 % 2 = 1 ∧ (2 ^ 64 - 1) % 2 = 1 := by decide

/-- RegisterReadsReturnTheStatus and BusWordsOfResultHoldItsBits: a bus that takes `result` whole; the first and the last
part of a 32-bit and of a 7-bit bus, in either order. -/
theorem witness_bus_words : 64 ≤ State.reset.cfg.busWidth ∧
    (0 < narrowCfg.busWidth ∧ 0 * narrowCfg.busWidth < 64 ∧ 1 * narrowCfg.busWidth < 64 ∧
      narrowCfg.resultWordOrder = .lowFirst) ∧
    (0 < narrowHighCfg.busWidth ∧ 1 * narrowHighCfg.busWidth < 64 ∧ narrowHighCfg.resultWordOrder = .highFirst) ∧
    9 * ({ narrowHighCfg with busWidth := 7 } : Config).busWidth < 64 := by decide

/-- A state with a result published, over a 32-bit bus. -/
def publishedState : State := { State.initial narrowCfg [] with result := 0x1234567800000009, valid := true }

/-- The reading clause of BusWordsOfResultHoldItsBits: both words, with a tick between them (R57, R238). -/
theorem witness_reading :
    publishedState.flushPending = false ∧ publishedState.valid = true ∧ publishedState.cfg.busWidth < 64 ∧
    pRead true publishedState [.part 0, .tick (quietIn 1 true), .part 1] ∧
    readsEveryWord narrowCfg [.part 0, .tick (quietIn 1 true), .part 1] ∧
    wordsRead publishedState [.part 0, .tick (quietIn 1 true), .part 1] = [(0, 9), (1, 0x12345678)] := by
  refine ⟨rfl, rfl, by decide, ⟨⟨rfl, by decide, trivial⟩, by decide, fun _ => by decide⟩, ?_, by decide⟩
  intro p hp
  have : p * 32 < 64 := of_decide_eq_true hp
  have : p = 0 ∨ p = 1 := by omega
  rcases this with rfl | rfl <;> simp

/-- Its clauses on a bus that takes `result` whole, and on a tick that completes a flush: a read, a done pulse with its
flush, and a read of the new result. -/
theorem witness_whole_reading :
    64 ≤ Config.default.busWidth ∧
    pRead true { State.reset with result := 384, valid := true }
      ([.part 0, .tick (flushIn 1), .tick (quietIn 1 true)] ++ .part 0 :: []) ∧
    (∀ a ∈ [ReadAction.part 0, .writeDone 1, .tick (quietIn 1 true)], noDonePulse a = true) ∧
    isFlushDoneTick partialBankState (quietIn 1 true) = true :=
  ⟨by decide, ⟨⟨rfl, by decide, trivial⟩, by decide, fun h => absurd h (by decide)⟩, by decide, by decide⟩

/-- A host that lowers `done` before it reads breaks `P_read` on any bus, and so does one that reads with the level low
(R238, R199). -/
theorem test_read_before_lowering :
    ¬pRead true { State.reset with valid := true } [.writeDone 0, .part 0] ∧
    ¬pRead true { State.reset with valid := true } [.tick (quietIn 1 false), .part 0] ∧
    ¬pRead false { State.reset with valid := true } [.part 0] :=
  ⟨fun h => absurd (h.2.1.2 _ (.head _)) (by decide), fun h => absurd (h.2.1.2 _ (.head _)) (by decide),
    fun h => absurd h.2.1.1 (by decide)⟩

/-- A done pulse between the two reads breaks `P_read`, and the words are of two results: 93_implementation_defined.md
section 3, split read. -/
theorem test_torn_read :
    ¬pRead true publishedState [.part 0, .tick (flushIn 1), .tick (quietIn 1 true), .part 1] ∧
    wordsRead publishedState [.part 0, .tick (flushIn 1), .tick (quietIn 1 true), .part 1] = [(0, 9), (1, 0)] :=
  ⟨fun h => absurd (h.2.2 (by decide) (.tick (flushIn 1)) (.tail _ (.head _))) (by decide), by decide⟩

/-- LevelsHighAtResetPulse, EveryInstructionHasANextState, ResetMeetsTheInvariants: the parameters, and each clause's
levels and events. -/
theorem witness_reset : Config.default.pulseSource = .risingEdge ∧ Config.default.unsettledPolicy = .reference ∧
    (⟨2, 3, 0, true, true⟩ : RegsIn).enable = true ∧
    ((⟨2, 3, 0, false, true⟩ : RegsIn).enable = false ∧ (⟨2, 3, 0, false, true⟩ : RegsIn).done = true) ∧
    refuseCfg.unsettledPolicy = .refuse ∧
    [Event.idle, .word (.csr 0b1000 5), .word (.tick 0), .reset].all isHostEvent = true := by decide

/-- ParametersNeverChange and OnlyTheHostWritesItsRegisters: an instruction that writes no register, and a step, with a
next state. -/
theorem witness_next_states :
    (∃ t, exec (.tick (pairIn 2 3)) State.reset = .next t) ∧ (∀ v, Instr.tick (pairIn 2 3) ≠ .wrXk v) ∧
    (∃ t, exec (.wrXk 7) State.reset = .next t) ∧ (∀ v, Instr.wrXk 7 ≠ .wrYk v) ∧ ∃ t, step State.reset = .next t :=
  ⟨⟨_, rfl⟩, fun v => by simp, ⟨_, rfl⟩, fun v => by simp, _, rfl⟩

/-- FlushStateHasOnlyItsWriters: one tick that changes each of the four. -/
theorem witness_flush_state :
    look (exec (.tick (flushIn 0)) State.reset) (·.flushPending) = some true ∧ State.reset.flushPending = false ∧
    look (exec (.tick (quietIn 3 false)) fullBankState) (·.accumulator) = some 384 ∧ fullBankState.accumulator = 0 ∧
    look (exec (.tick (quietIn 2 true)) partialBankState) (fun t => (t.result, t.valid)) = some (55, true) ∧
    (partialBankState.result, partialBankState.valid) = (0, false) := by decide

/-- SampleSpaceHasOnlyItsWriters: a tick that changes an X and a Y entry, and one that zeroes Y entries. -/
theorem witness_sample_space :
    look (exec (.tick (pairIn 2 3)) State.reset) (fun t => (xAt t (slot .zero 0), yAt t (slot .zero 0))) = some (2, 3) ∧
    (xAt State.reset (slot .zero 0), yAt State.reset (slot .zero 0)) = (0, 0) ∧
    look (exec (.tick (quietIn 3 false)) fullBankState) (fun t => yAt t (slot .zero 15)) = some 0 ∧
    yAt fullBankState (slot .zero 15) = 3 := by decide

/-- StepKeepsThePulseStateFitting, under either PULSE_SOURCE, with pulse state present. -/
theorem witness_pulse_state :
    (pulseStateFits { State.reset with enableQ := true } ∧ ∃ t, step { State.reset with enableQ := true } = .next t) ∧
    (pulseStateFits { State.initial strobeCfg [] with doneStrobe := true } ∧
      ∃ t, step { State.initial strobeCfg [] with doneStrobe := true } = .next t) :=
  ⟨⟨⟨rfl, rfl⟩, _, rfl⟩, ⟨rfl, rfl⟩, _, rfl⟩

/-- The four phases, each met by a state. -/
theorem witness_phases : idlePhase State.reset ∧
    filledPhase { State.reset with awb := .one, full := ⟨true, false⟩ } ∧ drainingPhase fullBankState ∧
    flushingPhase partialBankState := by
  refine ⟨?_, ?_, ?_, ?_⟩
  · simp only [idlePhase]; decide
  · simp only [filledPhase]; decide
  · simp only [drainingPhase]; decide
  · simp only [flushingPhase]; decide

/-- RefusingStepKeepsTheSteadyPhase: a flushing state, with a pair still to be presented, steps. -/
theorem witness_refusing_steady :
    refusingSteady { partialBankState with cfg := refuseCfg, events := [.idle, .word (.tick 0)] } ∧
    ∃ t, step { partialBankState with cfg := refuseCfg, events := [.idle, .word (.tick 0)] } = .next t :=
  ⟨⟨rfl, rfl, .inr (.inr (.inr (by simp only [flushingPhase]; decide)))⟩, _, rfl⟩

/-- The premises R230 to R233 of one tick, as a test evaluates them. -/
theorem hostPremises_of (s : State) (inp : TickIn) (h : (!(inp.enRe && busy s) && !(inp.doneRe && drainSignal s) &&
    !(inp.doneRe && s.startSum) && !(inp.doneRe && acceptSignal s inp) && !(s.flushPending && acceptSignal s inp) &&
    !(inp.doneRe && s.flushPending)) = true) : hostPremises s inp := by
  simp only [hostPremises, pBusy, pDrainDone, pSsDone, pFlushWindow]
  revert h
  cases inp.enRe <;> cases inp.doneRe <;> cases busy s <;> cases s.flushPending <;> simp <;> tauto

/-- The premises R234 and R235 of one tick that takes neither the ACC nor the FLUSH_DONE branch. -/
theorem streamPremises_of (n : Exponent) (s : State) (inp : TickIn)
    (h : (isAccTick s || isFlushDoneTick s inp) = false) : pExpStable n s inp ∧ pCleanPartial s inp := by
  rw [Bool.or_eq_false_iff] at h
  exact ⟨fun hx => by simp [h.1, h.2] at hx, fun hx => by simp [h.2] at hx⟩

/-- PremisesKeepBusyLow: a short stream with its flush, and the tick after it. -/
theorem witness_timing :
    timingAlong (State.initial Config.default []) [pairIn 3 1, quietIn 2 false, flushIn 2] ∧
    hostPremises (runTicks (State.initial Config.default []) [pairIn 3 1, quietIn 2 false, flushIn 2]) (quietIn 2 true) :=
  ⟨⟨hostPremises_of _ _ (by decide), hostPremises_of _ _ (by decide), hostPremises_of _ _ (by decide), trivial⟩,
    hostPremises_of _ _ (by decide)⟩

/-- The last clause of PremisesKeepBusyLow: a tick that fills a bank. -/
theorem witness_filling_tick :
    getFlag State.reset.full .zero = false ∧
    getFlag (tickStep { State.reset with writeCursor := 15 } (pairIn 2 3)).full .zero = true ∧
    hostPremises { State.reset with writeCursor := 15 } (pairIn 2 3) :=
  ⟨by decide, by decide, hostPremises_of _ _ (by decide)⟩

/-- FilledBankIsFoldedTwoTicksLater: the 16th pair, then two pairs of the next bank. -/
theorem witness_filled_bank :
    steadyPhase { State.reset with writeCursor := 15 } ∧
    acceptSignal { State.reset with writeCursor := 15 } (pairIn 2 3) = true ∧
    hostPremises { State.reset with writeCursor := 15 } (pairIn 2 3) ∧
    hostPremises (tickStep { State.reset with writeCursor := 15 } (pairIn 2 3)) (pairIn 4 5) ∧
    hostPremises (tickStep (tickStep { State.reset with writeCursor := 15 } (pairIn 2 3)) (pairIn 4 5)) (pairIn 6 7) :=
  ⟨.inl ⟨rfl, rfl, rfl, rfl⟩, by decide, hostPremises_of _ _ (by decide), hostPremises_of _ _ (by decide),
    hostPremises_of _ _ (by decide)⟩

/-- FlushCompletesInTwoTicks. -/
theorem witness_flush :
    steadyPhase { partialBankState with awb := .zero, flushPending := false, processing := ⟨false, false⟩ } ∧
    (flushIn 2).doneRe = true ∧
    hostPremises { partialBankState with awb := .zero, flushPending := false, processing := ⟨false, false⟩ } (flushIn 2) ∧
    hostPremises
      (tickStep { partialBankState with awb := .zero, flushPending := false, processing := ⟨false, false⟩ } (flushIn 2))
      (quietIn 2 true) :=
  ⟨.inl ⟨rfl, rfl, rfl, rfl⟩, rfl, hostPremises_of _ _ (by decide), hostPremises_of _ _ (by decide)⟩

/-- PublishedResultIsTheStreamSum: from reset, one pair (3, 4) at exponent 2, flushed; it publishes 36. -/
theorem witness_stream :
    streamStart State.reset ∧
    premisesAlong 2 State.reset ([pairIn 3 4, quietIn 2 false, flushIn 2] ++ [quietIn 2 true]) ∧
    noFlushDoneAlong State.reset [pairIn 3 4, quietIn 2 false, flushIn 2] ∧
    isFlushDoneTick (runTicks State.reset [pairIn 3 4, quietIn 2 false, flushIn 2]) (quietIn 2 true) = true ∧
    (runTicks State.reset ([pairIn 3 4, quietIn 2 false, flushIn 2] ++ [quietIn 2 true])).result = 36 := by
  have clean : pCleanPartial (runTicks State.reset [pairIn 3 4, quietIn 2 false, flushIn 2]) (quietIn 2 true) := by
    intro _
    decide
  refine ⟨⟨⟨rfl, rfl, rfl, rfl⟩, rfl, rfl⟩, ⟨hostPremises_of _ _ (by decide), (streamPremises_of 2 _ _ (by decide)).1,
    (streamPremises_of 2 _ _ (by decide)).2, hostPremises_of _ _ (by decide), (streamPremises_of 2 _ _ (by decide)).1,
    (streamPremises_of 2 _ _ (by decide)).2, hostPremises_of _ _ (by decide), (streamPremises_of 2 _ _ (by decide)).1,
    (streamPremises_of 2 _ _ (by decide)).2, hostPremises_of _ _ (by decide), fun _ => rfl, clean, trivial⟩, ?_, ?_, ?_⟩
  · exact ⟨by decide, by decide, by decide, trivial⟩
  · decide
  · decide

/-- The inputs of the run below: a pair at tick 0, a done pulse at tick 3, its level from then on. -/
def quietRun (t : Nat) : TickIn := if t = 0 then pairIn 3 4 else if t = 3 then flushIn 2 else quietIn 2 (decide (3 < t))

/-- The states of an endless run. -/
def endlessRun (ins : Nat → TickIn) : Nat → State
  | 0     => State.reset
  | t + 1 => tickStep (endlessRun ins t) (ins t)

/-- QuietWindowsMeetThePremises: an endless run with one pair and one done pulse. -/
theorem witness_quiet_windows :
    endlessRun quietRun 0 = State.initial Config.default [] ∧
    (∀ t, endlessRun quietRun (t + 1) = tickStep (endlessRun quietRun t) (quietRun t)) ∧
    (∀ t, pBusy (endlessRun quietRun t) (quietRun t)) ∧ quietWindows (endlessRun quietRun) quietRun ∧
    (quietRun 3).doneRe = true := by
  have hen : ∀ t, t ≠ 0 → (quietRun t).enRe = false := by
    intro t h
    by_cases h3 : t = 3 <;> simp [quietRun, h, h3, flushIn, quietIn]
  have hde : ∀ t, (quietRun t).doneRe = true → t = 3 := by
    intro t h
    by_cases h0 : t = 0
    · simp [quietRun, h0, pairIn] at h
    · by_contra h3
      simp [quietRun, h0, h3, quietIn] at h
  refine ⟨rfl, fun _ => rfl, ?_, ?_, rfl⟩
  · intro t h
    by_cases h0 : t = 0
    · rw [h0]; rfl
    · rw [hen t h0] at h; cases h
  · intro d hd
    have h3 := hde d hd
    refine ⟨fun t h1 _ => ?_, ?_⟩
    · simp [acceptSignal, hen t (by omega)]
    · rw [h3]; rfl

end Sys2Proof.Tests
end

section
/-! The PowerUnit and the Multiplier over the naturals (40_power_multiply.md R100, R101, R108): each function's value as
a number, and from it the exactness of the chained products and the PowerUnit's contract. -/

namespace Sys2Proof.Machine

theorem mul_toNat (a b : Word) : (mul a b).toNat = a.toNat * b.toNat % 2 ^ 64 := BitVec.toNat_mul a b

/-- R101's reason: truncation mod 2^64 commutes with multiplication, so a Multiplier fed two truncated powers gives the
truncated power of the summed exponent. -/
theorem mul_toNat_of_powers {a b : Word} {n i j : Nat} (ha : a.toNat = n ^ i % 2 ^ 64) (hb : b.toNat = n ^ j % 2 ^ 64) :
    (mul a b).toNat = n ^ (i + j) % 2 ^ 64 := by
  rw [mul_toNat, ha, hb, ← Nat.mul_mod, pow_add]

theorem toNat_eq_pow_one_mod (base : Word) : base.toNat = base.toNat ^ 1 % 2 ^ 64 := by
  rw [pow_one, Nat.mod_eq_of_lt base.isLt]

theorem powX2_toNat (base : Word) : (powX2 base).toNat = base.toNat ^ 2 % 2 ^ 64 :=
  mul_toNat_of_powers (toNat_eq_pow_one_mod base) (toNat_eq_pow_one_mod base)

theorem powX3_toNat (base : Word) : (powX3 base).toNat = base.toNat ^ 3 % 2 ^ 64 :=
  mul_toNat_of_powers (powX2_toNat base) (toNat_eq_pow_one_mod base)

theorem powX4_toNat (base : Word) : (powX4 base).toNat = base.toNat ^ 4 % 2 ^ 64 :=
  mul_toNat_of_powers (powX2_toNat base) (powX2_toNat base)

/-! The PowerUnit's arm at each exponent (R102 to R106), and the contract on both sides of exponent 4 (R100, R107). -/

@[simp] theorem powUnit_zero (sentinel base : Word) : powUnit sentinel base 0 = 1 := rfl
@[simp] theorem powUnit_one (sentinel base : Word) : powUnit sentinel base 1 = base := rfl
@[simp] theorem powUnit_two (sentinel base : Word) : powUnit sentinel base 2 = powX2 base := rfl
@[simp] theorem powUnit_three (sentinel base : Word) : powUnit sentinel base 3 = powX3 base := rfl
@[simp] theorem powUnit_four (sentinel base : Word) : powUnit sentinel base 4 = powX4 base := rfl

/-- The exponents above 4 are the three words that select a sentinel arm (R71). -/
theorem exponent_eq_of_four_lt {e : Exponent} (h : 4 < e.toNat) : e = 5 ∨ e = 6 ∨ e = 7 := by
  bv_omega

theorem exponent_eq_of_le_four {e : Exponent} (h : e.toNat ≤ 4) : e = 0 ∨ e = 1 ∨ e = 2 ∨ e = 3 ∨ e = 4 := by
  bv_omega

theorem powUnit_of_four_lt (sentinel base : Word) {e : Exponent} (h : 4 < e.toNat) :
    powUnit sentinel base e = sentinel := by
  obtain rfl | rfl | rfl := exponent_eq_of_four_lt h <;> rfl

theorem powUnit_toNat_of_le_four (sentinel base : Word) {e : Exponent} (h : e.toNat ≤ 4) :
    (powUnit sentinel base e).toNat = base.toNat ^ e.toNat % 2 ^ 64 := by
  obtain rfl | rfl | rfl | rfl | rfl := exponent_eq_of_le_four h
  · rw [powUnit_zero]; rfl
  · rw [powUnit_one]; exact toNat_eq_pow_one_mod base
  · rw [powUnit_two]; exact powX2_toNat base
  · rw [powUnit_three]; exact powX3_toNat base
  · rw [powUnit_four]; exact powX4_toNat base

/-- Settles O11: each product multiplies two truncated powers of the base, which is exact by `mul_toNat_of_powers`. -/
theorem chainedProductsAreExactPowers : Obligations.ChainedProductsAreExactPowers := fun base =>
  ⟨rfl, rfl, rfl, powX2_toNat base, powX3_toNat base, powX4_toNat base⟩

/-- Settles O12, by the arms on the two sides of exponent 4. -/
theorem powerUnitComputesPowers : Obligations.PowerUnitComputesPowers := fun sentinel base _ =>
  ⟨powUnit_toNat_of_le_four sentinel base, powUnit_of_four_lt sentinel base⟩

end Sys2Proof.Machine
end

section
/-! The decoder against the encoder and against the tables of 30_encoding.md (R70 to R79): what each selector word, each
bundle, each register code and each bus address decodes to. -/

namespace Sys2Proof.Machine

/-! ### Decoding the encoder's words -/

/-- Settles O5: a selector word with open bits decodes by the table of its format, a bundle by unpacking what was
packed, and every other code is a fixed word. -/
theorem decodeOfEncodeIsTheInstruction : Obligations.DecodeOfEncodeIsTheInstruction := by
  intro cfg i
  cases i with
  | noWrite bz c15 => simp [encode, decode, decodeAcpt3_bits3, instrOfAcpt]
  | dropWrite c15 => simp [encode, decode, decodeAcpt3_bits3, instrOfAcpt]
  | noDrain p => simp [encode, decode, decodeDrn2_bits2, instrOfDrn]
  | acc de fp dl => simp [encode, decode, decodeCtrl4_bits4, instrOfCtrl]
  | flushStart fp dl => simp [encode, decode, decodeCtrl4_bits4, instrOfCtrl]
  | flushDone dl => simp [encode, decode, decodeCtrl4_bits4, instrOfCtrl]
  | tick inp => simp [encode, decode, unpackTick_packTick]
  | regs lv => simp [encode, decode, unpackRegs_packRegs]
  | _ => rfl

/-! ### The selector words -/

/-- A selector word is the word of its own bits. -/
theorem bits3_getLsbD (w : BitVec 3) : bits3 (w.getLsbD 2) (w.getLsbD 1) (w.getLsbD 0) = w := by decide +revert

theorem bits2_getLsbD (w : BitVec 2) : bits2 (w.getLsbD 1) (w.getLsbD 0) = w := by decide +revert

theorem bits4_getLsbD (w : BitVec 4) :
    bits4 (w.getLsbD 3) (w.getLsbD 2) (w.getLsbD 1) (w.getLsbD 0) = w := by decide +revert

theorem getLsbD_bits3 (b2 b1 b0 : Bool) :
    (bits3 b2 b1 b0).getLsbD 2 = b2 ∧ (bits3 b2 b1 b0).getLsbD 1 = b1 ∧ (bits3 b2 b1 b0).getLsbD 0 = b0 := by
  decide +revert

theorem getLsbD_bits2 (b1 b0 : Bool) : (bits2 b1 b0).getLsbD 1 = b1 ∧ (bits2 b1 b0).getLsbD 0 = b0 := by
  decide +revert

theorem getLsbD_bits4 (b3 b2 b1 b0 : Bool) :
    (bits4 b3 b2 b1 b0).getLsbD 3 = b3 ∧ (bits4 b3 b2 b1 b0).getLsbD 2 = b2 ∧
    (bits4 b3 b2 b1 b0).getLsbD 1 = b1 ∧ (bits4 b3 b2 b1 b0).getLsbD 0 = b0 := by
  decide +revert

theorem decode_acpt3 (cfg : Config) (w : BitVec 3) : decode cfg (.acpt3 w) = .instr
    (if w.getLsbD 2 then if w.getLsbD 1 then .dropWrite (w.getLsbD 0) else if w.getLsbD 0 then .acceptLast
      else .acceptWrite else .noWrite (w.getLsbD 1) (w.getLsbD 0)) := by
  conv_lhs => rw [← bits3_getLsbD w, decode, decodeAcpt3_bits3]
  split_ifs <;> rfl

theorem decode_drn2 (cfg : Config) (w : BitVec 2) : decode cfg (.drn2 w) = .instr
    (if w.getLsbD 1 then if w.getLsbD 0 then .noDrainHeld else .drain else .noDrain (w.getLsbD 0)) := by
  conv_lhs => rw [← bits2_getLsbD w, decode, decodeDrn2_bits2]
  split_ifs <;> rfl

theorem decode_ctrl4 (cfg : Config) (w : BitVec 4) : decode cfg (.ctrl4 w) = .instr
    (if w.getLsbD 3 then .acc (w.getLsbD 2) (w.getLsbD 1) (w.getLsbD 0)
     else if w.getLsbD 2 then .flushStart (w.getLsbD 1) (w.getLsbD 0)
     else if w.getLsbD 1 then .flushDone (w.getLsbD 0)
     else if w.getLsbD 0 then .validHold else .validClear) := by
  conv_lhs => rw [← bits4_getLsbD w, decode, decodeCtrl4_bits4]
  split_ifs <;> rfl

/-- `cursorLast` tests for slot 15. -/
theorem cursorLast_iff (s : State) : cursorLast s = true ↔ s.writeCursor = 15 := beq_iff_eq

/-- Settles O4, by the table of each format and the bits of a tick's three selector words. -/
theorem selectorTablesDecode : Obligations.SelectorTablesDecode := by
  intro cfg
  refine ⟨fun _ => ⟨rfl, rfl, rfl, rfl, rfl, rfl, rfl, rfl⟩, decode_acpt3 cfg, decode_drn2 cfg, decode_ctrl4 cfg,
    fun _ => ⟨rfl, rfl, rfl, rfl, rfl, rfl, rfl, rfl⟩, fun s inp => ⟨?_, getLsbD_bits2 _ _, getLsbD_bits4 _ _ _ _⟩⟩
  obtain ⟨hen, hbz, hlast⟩ := getLsbD_bits3 inp.enRe (busy s) (cursorLast s)
  exact ⟨hen, hbz, by rw [acpt3Word, hlast, cursorLast_iff]⟩

/-- Settles O3: seven fixed words. -/
theorem writtenWordsDecode : Obligations.WrittenWordsDecode := fun _ => ⟨rfl, rfl, rfl, rfl, rfl, rfl, rfl⟩

/-! ### The bundles -/

/-- A field of a bundle is the number its bits make. -/
theorem toNat_extractLsb'_div {w : Nat} (v : BitVec w) (start len : Nat) :
    (v.extractLsb' start len).toNat = v.toNat / 2 ^ start % 2 ^ len := by
  rw [BitVec.extractLsb'_toNat, Nat.shiftRight_eq_div_pow]

/-- Settles O6: the fields are slices of the word, and the unpacked bundle packs to the word. -/
theorem bundleFieldsStandAtTheirBits : Obligations.BundleFieldsStandAtTheirBits := by
  constructor
  · intro cfg w
    exact ⟨unpackTick w, rfl, (toNat_extractLsb'_div w 0 32).trans (by rw [pow_zero, Nat.div_one]),
      toNat_extractLsb'_div w 32 32, toNat_extractLsb'_div w 64 3, rfl, rfl, rfl, packTick_unpackTick w⟩
  · intro cfg w
    exact ⟨unpackRegs w, rfl, (toNat_extractLsb'_div w 0 32).trans (by rw [pow_zero, Nat.div_one]),
      toNat_extractLsb'_div w 32 32, toNat_extractLsb'_div w 64 3, rfl, rfl, packRegs_unpackRegs w⟩

/-! ### The register codes -/

/-- The codes R79 reserves. -/
theorem csrCode_eq_of_reserved {c : BitVec 4} (h : c.toNat ≤ 4 ∨ 13 ≤ c.toNat) :
    c = 0 ∨ c = 1 ∨ c = 2 ∨ c = 3 ∨ c = 4 ∨ c = 13 ∨ c = 14 ∨ c = 15 := by
  bv_omega

/-- The codes R78 gives a register. -/
theorem csrCode_eq_of_access {c : BitVec 4} (h : ¬(c.toNat ≤ 4 ∨ 13 ≤ c.toNat)) :
    c = 5 ∨ c = 6 ∨ c = 7 ∨ c = 8 ∨ c = 9 ∨ c = 10 ∨ c = 11 ∨ c = 12 := by
  bv_omega

theorem decodeCsr_of_reserved {c : BitVec 4} (data : Nat) (h : c.toNat ≤ 4 ∨ 13 ≤ c.toNat) :
    decodeCsr c data = .reserved c := by
  obtain rfl | rfl | rfl | rfl | rfl | rfl | rfl | rfl := csrCode_eq_of_reserved h <;> rfl

theorem decodeCsr_of_access {c : BitVec 4} (data : Nat) (h : ¬(c.toNat ≤ 4 ∨ 13 ≤ c.toNat)) :
    ∃ i, decodeCsr c data = .instr i := by
  obtain rfl | rfl | rfl | rfl | rfl | rfl | rfl | rfl := csrCode_eq_of_access h <;> exact ⟨_, rfl⟩

/-- A register code decodes to a reservation exactly where R79 reserves it, and then to its own. -/
theorem decodeCsr_reserved_iff (c d : BitVec 4) (data : Nat) :
    decodeCsr c data = .reserved d ↔ (c.toNat ≤ 4 ∨ 13 ≤ c.toNat) ∧ d = c := by
  by_cases h : c.toNat ≤ 4 ∨ 13 ≤ c.toNat
  · simp [decodeCsr_of_reserved data h, h, eq_comm]
  · obtain ⟨i, hi⟩ := decodeCsr_of_access data h
    simp [hi, h]

/-- A step on a word is what its decoding asks for, on the state with the word taken off. -/
theorem fetch_word (s : State) (c : Code) (rest : List Event) (h : s.events = .word c :: rest) :
    fetch s = fetchDecoded (decode s.cfg c) { s with events := rest } := by
  unfold fetch
  rw [h]

/-- Settles O7, by the two classes of register codes. -/
theorem reservedRegisterCodesAreRefused : Obligations.ReservedRegisterCodesAreRefused := by
  refine ⟨fun cfg c data => ?_, fun s c data rest hev hc => ?_, fun cfg => ⟨fun _ _ => ⟨_, rfl⟩, fun _ => ⟨_, rfl⟩,
    fun _ => ⟨_, rfl⟩, fun _ => ⟨_, rfl⟩, fun _ => ⟨_, rfl⟩, fun _ => ⟨_, rfl⟩⟩⟩
  · simpa [decode] using decodeCsr_reserved_iff c c data
  · rw [step, fetch_word s _ rest hev, decode, decodeCsr_of_reserved data hc, fetchDecoded]

/-! ### Bus addresses -/

/-- The first register at an address is the one its index names. -/
theorem csrIndexAt_of_first (cfg : Config) (addr : Nat) (r : Fin 8) (hr : cfg.csrAddr[r] = addr)
    (hfirst : ∀ q : Fin 8, q < r → cfg.csrAddr[q] ≠ addr) : csrIndexAt cfg addr = some r.val := by
  rw [csrIndexAt, List.findIdx?_eq_some_iff_getElem]
  refine ⟨by simp, by simpa using hr, fun j hj => ?_⟩
  have := hfirst ⟨j, hj.trans r.isLt⟩ hj
  simpa using this

theorem csrIndexAt_of_unmapped (cfg : Config) (addr : Nat) (h : ∀ q : Fin 8, cfg.csrAddr[q] ≠ addr) :
    csrIndexAt cfg addr = none := by
  rw [csrIndexAt, List.findIdx?_eq_none_iff]
  intro a ha
  obtain ⟨q, hq, rfl⟩ := List.getElem_of_mem ha
  simpa using h ⟨q, by simpa using hq⟩

/-- R78's code `{dir, idx}` as a number. -/
theorem csrCode_eq (write : Bool) (r : Fin 8) :
    BitVec.ofBool write ++ BitVec.ofNat 3 r.val = BitVec.ofNat 4 (write.toNat * 8 + r.val) := by
  decide +revert

/-- Settles O8, by the register the address resolves to, or that it resolves to none. -/
theorem busAddressResolvesToItsRegister : Obligations.BusAddressResolvesToItsRegister := by
  constructor
  · intro cfg write addr data r hr hfirst
    simp only [decode, csrIndexAt_of_first cfg addr r hr hfirst, csrCode_eq]
  · intro s write addr data rest hev hnone
    simp only [step, fetch_word s _ rest hev, decode, csrIndexAt_of_unmapped s.cfg addr hnone, fetchDecoded]

end Sys2Proof.Machine
end

section
/-! The combinational functions run alone (40_power_multiply.md, 42_array_tree.md, R126): each arm, the Multiplier, a
lane, the tree and the bank sum, as values over the naturals. -/

namespace Sys2Proof.Machine

/-! ### The PowerUnit's arms and the Multiplier -/

/-- Settles O9: each arm presents its product (R102 to R106). -/
theorem powArmsGiveTheirPower : Obligations.PowArmsGiveTheirPower := fun _ _ =>
  ⟨⟨rfl, rfl⟩, ⟨rfl, rfl⟩, ⟨rfl, rfl⟩, ⟨rfl, rfl⟩, ⟨rfl, rfl⟩⟩

theorem toNat_mul_zeroExtend (a : Word) (y : Sample) :
    (a * y.zeroExtend 64).toNat = a.toNat * y.toNat % 2 ^ 64 := by
  have hy : (y.zeroExtend 64).toNat = y.toNat := by
    rw [BitVec.zeroExtend, BitVec.toNat_setWidth]
    have := y.isLt
    omega
  rw [BitVec.toNat_mul, hy]

/-- Settles O10; the default sentinel has 31 bits, so its product with 32 bits stays below 2^64. -/
theorem sentinelArmsGiveTheSentinel : Obligations.SentinelArmsGiveTheSentinel := by
  refine ⟨fun _ _ => ⟨⟨rfl, rfl⟩, ⟨rfl, rfl⟩, ⟨rfl, rfl⟩⟩, rfl, fun y => ?_⟩
  have hs : Config.default.sentinel.toNat = 0x7FC00000 := rfl
  have hy := y.isLt
  rw [toNat_mul_zeroExtend, hs]
  omega

theorem exec_mul (a b : Word) (s : State) : exec (.mul a b) s = .next (present (mul a b) s) := rfl

theorem mul_operands_comm (a b : Word) : mul a b = mul b a := BitVec.mul_comm a b

theorem mul_zero_operand (a : Word) : mul a 0 = 0 := BitVec.mul_zero

/-- Settles O13, by the value of the product (R108). -/
theorem multiplierTruncates : Obligations.MultiplierTruncates := by
  intro a b s
  refine ⟨⟨mul a b, exec_mul a b s, mul_toNat a b⟩, ?_, ?_⟩
  · rw [exec_mul, exec_mul, mul_operands_comm]
  · rw [exec_mul, mul_zero_operand, present]

/-! ### Lanes -/

theorem exec_lane (b : Bank) (i : Cursor) (e : Exponent) (s : State) :
    exec (.lane b i e) s = .next (present (lane s b i e) s) := rfl

theorem lane_of_yAt_zero (s : State) (b : Bank) (i : Cursor) (e : Exponent) (h : yAt s (slot b i) = 0) :
    lane s b i e = 0 := by
  rw [lane, laneY, h]
  exact mul_zero_operand _

theorem lane_exponent_zero (s : State) (b : Bank) (i : Cursor) :
    lane s b i 0 = (yAt s (slot b i)).zeroExtend 64 := by
  rw [lane, powUnit_zero, mul, laneY]
  exact BitVec.one_mul _

/-- Settles O14, by the lane's value at a zero sample and at exponent 0. -/
theorem laneIsPowerTimesSample : Obligations.LaneIsPowerTimesSample := by
  intro s b i e
  refine ⟨rfl, slot_val b i, fun hy => ?_, ?_⟩
  · rw [exec_lane, lane_of_yAt_zero s b i e hy, present]
  · rw [exec_lane, lane_exponent_zero, present]

/-- A lane over the naturals, with the power as the unit computes it. -/
theorem lane_eq_ofNat_powUnit (s : State) (b : Bank) (i : Cursor) (e : Exponent) : lane s b i e = BitVec.ofNat 64
    ((powUnit s.cfg.sentinel ((xAt s (slot b i)).zeroExtend 64) e).toNat * (yAt s (slot b i)).toNat) := by
  apply BitVec.eq_of_toNat_eq
  rw [BitVec.toNat_ofNat, ← toNat_mul_zeroExtend]
  rfl

/-- The PowerUnit's value is, modulo 2^64, the power that R144 names. -/
theorem powUnit_toNat_mod (sentinel : Word) (x : Sample) (e : Exponent) :
    (powUnit sentinel (x.zeroExtend 64) e).toNat =
      (if e.toNat ≤ 4 then x.toNat ^ e.toNat else sentinel.toNat) % 2 ^ 64 := by
  split_ifs with h
  · rw [powUnit_toNat_of_le_four sentinel _ h, BitVec.zeroExtend, BitVec.toNat_setWidth, ← Nat.pow_mod]
  · rw [powUnit_of_four_lt sentinel _ (by omega), Nat.mod_eq_of_lt sentinel.isLt]

/-- A lane is its pair's term of the stream's sum, modulo 2^64 (R144). -/
theorem lane_eq_ofNat_pairTerm (s : State) (b : Bank) (i : Cursor) (e : Exponent) :
    lane s b i e = BitVec.ofNat 64 (pairTerm s.cfg.sentinel e (xAt s (slot b i), yAt s (slot b i))) := by
  rw [lane_eq_ofNat_powUnit, powUnit_toNat_mod]
  apply BitVec.eq_of_toNat_eq
  rw [BitVec.toNat_ofNat, BitVec.toNat_ofNat, pairTerm, Nat.mod_mul_mod]

/-! ### The tree and the bank sum -/

/-- Settles O15: the four levels, written out (R141). -/
theorem treeAddsInFourLevels : Obligations.TreeAddsInFourLevels := fun _ _ => rfl

/-- The tree's sum, without its pairing. -/
theorem tree_eq_sum (p : Nat → Word) : tree p = ((List.range 16).map p).sum := by
  simp [tree, adderLevel, List.range_succ, add_assoc]

/-- Reduction modulo 2^64 commutes with a sum. -/
theorem sum_map_ofNat (f : Nat → Nat) (l : List Nat) :
    (l.map fun i => BitVec.ofNat 64 (f i)).sum = BitVec.ofNat 64 (l.map f).sum := by
  induction l with
  | nil => rfl
  | cons i l ih => rw [List.map_cons, List.sum_cons, ih, List.map_cons, List.sum_cons, BitVec.ofNat_add]

theorem bankSum_toNat (s : State) (b : Bank) (e : Exponent) (f : Nat → Nat)
    (h : ∀ i, lane s b (BitVec.ofNat 4 i) e = BitVec.ofNat 64 (f i)) :
    (bankSum s b e).toNat = ((List.range 16).map f).sum % 2 ^ 64 := by
  rw [bankSum, tree_eq_sum, funext h, sum_map_ofNat, BitVec.toNat_ofNat]

/-- Settles O16, by the two readings of a lane over the naturals. -/
theorem bankSumIsTheSumModulo : Obligations.BankSumIsTheSumModulo := fun s b e =>
  ⟨bankSum s b e, rfl, rfl, bankSum_toNat s b e _ fun _ => lane_eq_ofNat_powUnit s b _ e,
    bankSum_toNat s b e _ fun _ => lane_eq_ofNat_pairTerm s b _ e⟩

/-! ### Busy -/

theorem busy_eq_true_iff (s : State) : busy s = true ↔ s.processing = ⟨true, true⟩ := by
  rcases hp : s.processing with ⟨zero, one⟩
  simp [busy, hp]

/-- Settles O17, by the value of `busy` (R126). -/
theorem busyIsBothBanksProcessing : Obligations.BusyIsBothBanksProcessing := by
  intro s
  have harms : exec .busy s = .next (present (bitWord (busy s)) s) ∧
      exec .rdBusy s = .next (returnData (bitWord (busy s)) s) := ⟨rfl, rfl⟩
  rw [harms.1, harms.2, ← busy_eq_true_iff, ne_eq, ← busy_eq_true_iff]
  cases busy s <;> simp [bitWord, present, returnData]

end Sys2Proof.Machine
end

section
/-! The signals a tick reads and its next state, field by field (44_tick_and_interface.md R181 to R187). -/

namespace Sys2Proof.Machine

/-! ### The signals of a tick -/

theorem acceptSignal_iff (s : State) (inp : TickIn) :
    acceptSignal s inp = true ↔ inp.enRe = true ∧ busy s = false := by
  simp [acceptSignal]

theorem acceptSignal_false_iff (s : State) (inp : TickIn) :
    acceptSignal s inp = false ↔ inp.enRe = false ∨ busy s = true := by
  simp [acceptSignal, imp_iff_not_or]

theorem drainSignal_iff (s : State) :
    drainSignal s = true ↔ getFlag s.full (drainBank s) = true ∧ getFlag s.processing (drainBank s) = false := by
  simp [drainSignal]

theorem isFlushDoneTick_iff (s : State) (inp : TickIn) :
    isFlushDoneTick s inp = true ↔ s.startSum = false ∧ inp.doneRe = false ∧ s.flushPending = true := by
  simp [isFlushDoneTick, and_assoc]

theorem isFlushDoneTick_of_startSum {s : State} {inp : TickIn} (h : s.startSum = true) :
    isFlushDoneTick s inp = false := by
  simp [isFlushDoneTick, h]

theorem isFlushDoneTick_of_doneRe {s : State} {inp : TickIn} (h : inp.doneRe = true) :
    isFlushDoneTick s inp = false := by
  simp [isFlushDoneTick, h]

theorem isFlushDoneTick_of_not_pending {s : State} {inp : TickIn} (h : s.flushPending = false) :
    isFlushDoneTick s inp = false := by
  simp [isFlushDoneTick, h]

/-- The active bank is not the drain bank. -/
theorem drainBank_ne (s : State) : drainBank s ≠ s.awb := otherBank_ne s.awb

theorem awb_ne_drainBank (s : State) : s.awb ≠ drainBank s := (drainBank_ne s).symm

theorem otherBank_awb (s : State) : otherBank s.awb = drainBank s := rfl

@[simp] theorem otherBank_drainBank (s : State) : otherBank (drainBank s) = s.awb := otherBank_otherBank s.awb

/-- A slot lies in the bank it is named by. -/
theorem slot_in_bank_iff (b c : Bank) (i : Cursor) : (slot b i).val / 16 = bankNum c ↔ b = c := by
  rw [slot_div]
  exact ⟨bankNum_inj b c, congrArg bankNum⟩

/-! ### What a tick writes -/

section Fields

variable (s : State) (inp : TickIn)

/-- A tick as one nest of choices. -/
theorem tickStep_eq : tickStep s inp =
    (let w := if acceptSignal s inp then
        (if cursorLast s then acceptLastWrites s inp s else acceptWriteWrites s inp s) else s
     let e := if s.startSum then accWrites s inp w else if inp.doneRe then flushStartWrites s w
       else if s.flushPending then w else if inp.doneLvl then w else validClearWrites w
     let d := if drainSignal s then drainWrites s e else noDrainWrites e
     if isFlushDoneTick s inp then flushDoneWrites s inp d else d) := composeTick_eq s inp s

/-- R124, R125: `start_sum` is raised by DRAIN only, and falls otherwise. -/
@[simp] theorem tickStep_startSum : (tickStep s inp).startSum = drainSignal s := by
  simp [tickStep_eq, apply_ite State.startSum]

/-- R183: one toggle. -/
theorem tickStep_awb : (tickStep s inp).awb =
    if (acceptSignal s inp = true ∧ s.writeCursor = 15) ∨ (s.startSum = false ∧ inp.doneRe = true)
    then otherBank s.awb else s.awb := by
  have h : (tickStep s inp).awb =
      if s.startSum = false ∧ inp.doneRe = true then otherBank s.awb
      else if acceptSignal s inp = true then (if cursorLast s then otherBank s.awb else s.awb) else s.awb := by
    cases hs : s.startSum <;> simp [tickStep_eq, apply_ite State.awb, hs]
  rw [h]
  split_ifs <;> simp_all [cursorLast_iff]

/-- R185: FLUSH_DONE's reset wins over the increment, which wraps where ACCEPT_LAST resets. -/
theorem tickStep_writeCursor : (tickStep s inp).writeCursor =
    if isFlushDoneTick s inp then 0 else if acceptSignal s inp then s.writeCursor + 1 else s.writeCursor := by
  have h : (tickStep s inp).writeCursor = if isFlushDoneTick s inp then 0
      else if acceptSignal s inp then (if cursorLast s then 0 else s.writeCursor + 1) else s.writeCursor := by
    simp [tickStep_eq, apply_ite State.writeCursor]
  have hwrap : (if cursorLast s then 0 else s.writeCursor + 1) = s.writeCursor + 1 :=
    ite_eq_right_iff.2 fun hl => by rw [(cursorLast_iff s).1 hl]; rfl
  rw [h, hwrap]

/-- R162: the published total. -/
theorem tickStep_result : (tickStep s inp).result =
    if isFlushDoneTick s inp then s.accumulator + bankSum s (drainBank s) inp.exp else s.result := by
  simp [tickStep_eq, apply_ite State.result]

/-- R162, R163, R164. -/
theorem tickStep_valid : (tickStep s inp).valid =
    if isFlushDoneTick s inp then true
    else if s.startSum = false ∧ inp.doneRe = false ∧ inp.doneLvl = false then false else s.valid := by
  have h : (tickStep s inp).valid = if isFlushDoneTick s inp then true else if s.startSum then s.valid
      else if inp.doneRe then s.valid else if s.flushPending then s.valid
      else if inp.doneLvl then s.valid else false := by
    simp [tickStep_eq, apply_ite State.valid]
  rw [h]
  split_ifs <;> simp_all [isFlushDoneTick]

/-- R160, R162. -/
theorem tickStep_accumulator : (tickStep s inp).accumulator =
    if s.startSum then s.accumulator + bankSum s (drainBank s) inp.exp
    else if isFlushDoneTick s inp then 0 else s.accumulator := by
  cases hs : s.startSum
  · simp [tickStep_eq, apply_ite State.accumulator, hs]
  · simp [tickStep_eq, apply_ite State.accumulator, hs, isFlushDoneTick_of_startSum hs]

/-- R161, R162. -/
theorem tickStep_flushPending : (tickStep s inp).flushPending =
    if s.startSum = false ∧ inp.doneRe = true then true
    else if isFlushDoneTick s inp then false else s.flushPending := by
  have h : (tickStep s inp).flushPending = if isFlushDoneTick s inp then false else if s.startSum then s.flushPending
      else if inp.doneRe then true else s.flushPending := by
    simp [tickStep_eq, apply_ite State.flushPending]
  rw [h]
  split_ifs <;> simp_all [isFlushDoneTick]

/-- R184: `processing` takes its writes in the order ACC or FLUSH_START, DRAIN, FLUSH_DONE. -/
theorem tickStep_processing : (tickStep s inp).processing =
    (let p := if s.startSum then setFlag s.processing (drainBank s) false
       else if inp.doneRe then
         (if s.cfg.flushMarksProcessing then setFlag s.processing s.awb true else s.processing)
       else s.processing
     if isFlushDoneTick s inp then ⟨false, false⟩
     else if drainSignal s then setFlag p (drainBank s) true else p) := by
  simp [tickStep_eq, apply_ite State.processing]

/-- R122, R124: ACCEPT_LAST marks the active bank and DRAIN clears the drain bank. -/
theorem tickStep_full : (tickStep s inp).full =
    (let f := if acceptSignal s inp = true ∧ s.writeCursor = 15 then setFlag s.full s.awb true else s.full
     if drainSignal s then setFlag f (drainBank s) false else f) := by
  simp [tickStep_eq, apply_ite State.full, cursorLast, ite_and]

/-- The state with the accepted pair in its slot, where a pair is accepted (R121, R122). -/
def withAcceptedPair : State :=
  if acceptSignal s inp then storePair (slot s.awb s.writeCursor) inp.xk inp.yk s else s

/-- Both accepting rows store at the cursor. -/
theorem slot_of_cursorLast (h : cursorLast s = true) : slot s.awb 15 = slot s.awb s.writeCursor := by
  rw [(cursorLast_iff s).1 h]

theorem tickStep_x : (tickStep s inp).x = (withAcceptedPair s inp).x := by
  cases hl : cursorLast s
  · simp [tickStep_eq, withAcceptedPair, apply_ite State.x, hl]
  · simp [tickStep_eq, withAcceptedPair, apply_ite State.x, hl, ← slot_of_cursorLast s hl]

theorem zeroBankY_y (b : Bank) (n : State) :
    (zeroBankY b n).y = n.y.mapIdx fun k v => if k / 16 = bankNum b then 0 else v := rfl

theorem tickStep_y : (tickStep s inp).y =
    (if s.startSum then zeroBankY (drainBank s) (withAcceptedPair s inp) else withAcceptedPair s inp).y := by
  cases hl : cursorLast s
  · simp [tickStep_eq, withAcceptedPair, apply_ite State.y, zeroBankY_y, hl]
  · simp [tickStep_eq, withAcceptedPair, apply_ite State.y, zeroBankY_y, hl, ← slot_of_cursorLast s hl]

/-- X after a tick: the accepted pair's entry, and every other as before (R121, R122). -/
theorem xAt_tickStep (k : Slot) : xAt (tickStep s inp) k =
    if acceptSignal s inp = true ∧ k = slot s.awb s.writeCursor then inp.xk else xAt s k := by
  have : xAt (tickStep s inp) k = xAt (withAcceptedPair s inp) k := by rw [xAt, tickStep_x]; rfl
  rw [this, withAcceptedPair]
  split_ifs <;> simp_all [xAt_storePair]

/-- Y after a tick: the accepted pair's entry, else ACC's zero in the drain bank, else as before (R121, R122, R160). -/
theorem yAt_tickStep (b : Bank) (i : Cursor) : yAt (tickStep s inp) (slot b i) =
    if acceptSignal s inp = true ∧ slot b i = slot s.awb s.writeCursor then inp.yk
    else if s.startSum = true ∧ b = drainBank s then 0 else yAt s (slot b i) := by
  have hy : yAt (tickStep s inp) (slot b i) =
      if s.startSum = true ∧ b = drainBank s then 0 else yAt (withAcceptedPair s inp) (slot b i) := by
    cases hs : s.startSum
    · simp [yAt, tickStep_y, hs]
    · have h : yAt (tickStep s inp) (slot b i) =
          yAt (zeroBankY (drainBank s) (withAcceptedPair s inp)) (slot b i) := by simp [yAt, tickStep_y, hs]
      simp [h, yAt_zeroBankY, slot_in_bank_iff]
  have hstored : yAt (withAcceptedPair s inp) (slot b i) =
      if acceptSignal s inp = true ∧ slot b i = slot s.awb s.writeCursor then inp.yk else yAt s (slot b i) := by
    rw [withAcceptedPair]
    split_ifs <;> simp_all [yAt_storePair]
  rw [hy, hstored]
  by_cases hb : b = drainBank s
  · simp [hb, slot_inj, drainBank_ne]
  · simp [hb]

end Fields
end Sys2Proof.Machine
end

section
/-! The statements about single ticks (41_collector_scheduler.md, 43_accumulate_flush.md, R183 to R187), each read off
the fields of the next state. -/

namespace Sys2Proof.Machine

/-- A tick that runs answers the composed state (R197). -/
theorem exec_tick_of_runs {s : State} {inp : TickIn} (h : tickRuns s inp) :
    exec (.tick inp) s = .next (tickStep s inp) := by
  obtain h | h := h
  · exact runTick_reference s inp s h
  · exact runTick_settled s inp s ((unsettledCase_none s inp).2 h)

/-! ### The flags by bank -/

theorem getFlag_setFlag (f : BankFlags) (b c : Bank) (v : Bool) :
    getFlag (setFlag f b v) c = if c = b then v else getFlag f c := by
  split_ifs with h
  · rw [h, getFlag_setFlag_same]
  · exact getFlag_setFlag_other f b c v h

@[simp] theorem getFlag_none (b : Bank) : getFlag ⟨false, false⟩ b = false := by cases b <;> rfl

/-- R122, R124, by bank: DRAIN's clear of the drain bank, else ACCEPT_LAST's mark of the active bank. -/
theorem getFlag_full_tickStep (s : State) (inp : TickIn) (b : Bank) : getFlag (tickStep s inp).full b =
    if drainSignal s = true ∧ b = drainBank s then false
    else if acceptSignal s inp = true ∧ s.writeCursor = 15 ∧ b = s.awb then true else getFlag s.full b := by
  simp only [tickStep_full, apply_ite (getFlag · b), getFlag_setFlag]
  split_ifs <;> simp_all

/-- R184, by bank: FLUSH_DONE's clear, else DRAIN's set, else FLUSH_START's mark, else ACC's clear. -/
theorem getFlag_processing_tickStep (s : State) (inp : TickIn) (b : Bank) : getFlag (tickStep s inp).processing b =
    if isFlushDoneTick s inp then false
    else if drainSignal s = true ∧ b = drainBank s then true
    else if s.startSum = false ∧ inp.doneRe = true ∧ s.cfg.flushMarksProcessing = true ∧ b = s.awb then true
    else if s.startSum = true ∧ b = drainBank s then false
    else getFlag s.processing b := by
  simp only [tickStep_processing, apply_ite (getFlag · b), getFlag_setFlag, getFlag_none]
  split_ifs <;> simp_all

/-- The drain bank's `full` bit is DRAIN's to clear. -/
theorem getFlag_full_drainBank_tickStep (s : State) (inp : TickIn) : getFlag (tickStep s inp).full (drainBank s) =
    if drainSignal s then false else getFlag s.full (drainBank s) := by
  simp [getFlag_full_tickStep, drainBank_ne]

/-- The active bank's `full` bit is ACCEPT_LAST's to set. -/
theorem getFlag_full_awb_tickStep (s : State) (inp : TickIn) : getFlag (tickStep s inp).full s.awb =
    if acceptSignal s inp = true ∧ s.writeCursor = 15 then true else getFlag s.full s.awb := by
  simp [getFlag_full_tickStep, awb_ne_drainBank]

theorem full_tickStep_of_no_drain {s : State} {inp : TickIn} (ha : acceptSignal s inp = false)
    (hd : drainSignal s = false) : (tickStep s inp).full = s.full := by
  simp [tickStep_full, ha, hd]

/-! ### The gathered step -/

theorem branch_acc_iff (s : State) (inp : TickIn) : branch s inp = .acc ↔ s.startSum = true := by
  unfold branch
  split_ifs <;> simp_all

theorem branch_flushStart_iff (s : State) (inp : TickIn) :
    branch s inp = .flushStart ↔ s.startSum = false ∧ inp.doneRe = true := by
  unfold branch
  split_ifs <;> simp_all

theorem branch_flushDone_iff (s : State) (inp : TickIn) :
    branch s inp = .flushDone ↔ isFlushDoneTick s inp = true := by
  unfold branch isFlushDoneTick
  split_ifs <;> simp_all

theorem branch_validClear_iff (s : State) (inp : TickIn) : branch s inp = .validClear ↔
    s.startSum = false ∧ inp.doneRe = false ∧ s.flushPending = false ∧ inp.doneLvl = false := by
  unfold branch
  split_ifs <;> simp_all

/-- The eleven fields a tick can write, on the state it starts from. -/
theorem tickStep_frame (s : State) (inp : TickIn) : tickStep s inp = { s with
    x := (tickStep s inp).x
    y := (tickStep s inp).y
    writeCursor := (tickStep s inp).writeCursor
    awb := (tickStep s inp).awb
    full := (tickStep s inp).full
    processing := (tickStep s inp).processing
    startSum := (tickStep s inp).startSum
    flushPending := (tickStep s inp).flushPending
    accumulator := (tickStep s inp).accumulator
    result := (tickStep s inp).result
    valid := (tickStep s inp).valid } := by
  obtain ⟨⟨h1, h2, h3, h4⟩, ⟨h5, h6, h7, h8⟩, h9, h10, h11, h12, h13⟩ := composeTick_frame s inp s
  unfold tickStep
  generalize composeTick s inp s = t at *
  cases t
  simp_all

/-- R187: the composed rows write what the gathered text says, field by field. -/
theorem tickStep_eq_gatheredStep (s : State) (inp : TickIn) : tickStep s inp = gatheredStep s inp := by
  rw [tickStep_frame, gatheredStep]
  simp only [State.mk.injEq, true_and, and_true]
  refine ⟨?x, ?y, ?writeCursor, ?awb, ?full, ?processing, ?startSum, ?flushPending, ?accumulator, ?result, ?valid⟩
  case x =>
    refine samples_ext _ _ fun k => (xAt_tickStep s inp k).trans ?_
    simp
  case y =>
    refine samples_ext _ _ fun k => ?_
    obtain ⟨b, i, rfl⟩ := exists_slot k
    refine (yAt_tickStep s inp b i).trans ?_
    simp [branch_acc_iff, slot_in_bank_iff]
  case writeCursor => simp [tickStep_writeCursor, branch_flushDone_iff]
  case awb => simp [tickStep_awb, branch_flushStart_iff]
  case full => simp [tickStep_full]
  case processing =>
    cases hs : s.startSum <;>
      simp [tickStep_processing, branch_acc_iff, branch_flushStart_iff, branch_flushDone_iff, hs, ite_and]
  case startSum => exact tickStep_startSum s inp
  case flushPending => simp [tickStep_flushPending, branch_flushStart_iff, branch_flushDone_iff]
  case accumulator => simp [tickStep_accumulator, branch_acc_iff, branch_flushDone_iff]
  case result => simp [tickStep_result, branch_flushDone_iff]
  case valid =>
    rw [tickStep_valid]
    simp only [branch_flushDone_iff, branch_validClear_iff]
    split_ifs <;> simp_all [isFlushDoneTick]

/-- Settles O36, by the gathered step's fields. -/
theorem tickIsTheGatheredStep : Obligations.TickIsTheGatheredStep := fun s inp h => by
  rw [exec_tick_of_runs h, tickStep_eq_gatheredStep]

/-! ### The write path -/

/-- The ACPT3 row a tick selects. -/
theorem acceptRow_eq (s : State) (inp : TickIn) : decodeAcpt3 (acpt3Word s inp) =
    if inp.enRe then (if busy s then .dropWrite (cursorLast s) else if cursorLast s then .acceptLast else .acceptWrite)
    else .noWrite (busy s) (cursorLast s) := decodeAcpt3_bits3 _ _ _

theorem cursorLast_false_iff (s : State) : cursorLast s = false ↔ s.writeCursor ≠ 15 := by
  rw [← Bool.not_eq_true, cursorLast_iff]

theorem cursor_succ_toNat {c : Cursor} (h : c ≠ 15) : (c + 1).toNat = c.toNat + 1 := by bv_omega

/-- Settles O24: X, Y, cursor and `full` of the next state. -/
theorem tickStoresAnAcceptedPair : Obligations.TickStoresAnAcceptedPair := by
  intro s inp hruns hen hbusy hcur
  have hacc : acceptSignal s inp = true := (acceptSignal_iff s inp).2 ⟨hen, hbusy⟩
  refine ⟨by simp [acceptRow_eq, hen, hbusy, (cursorLast_false_iff s).2 hcur], _, exec_tick_of_runs hruns,
    ?x, ?stored, ?y, ?cursor, ?full⟩
  case x => simp [xAt_tickStep, hacc]
  case stored => simp [yAt_tickStep, hacc]
  case y => exact fun b i h => by simp [yAt_tickStep, h]
  case cursor =>
    rw [tickStep_writeCursor, if_pos hacc, apply_ite BitVec.toNat, cursor_succ_toNat hcur]
    rfl
  case full => rw [getFlag_full_awb_tickStep, if_neg fun h => hcur h.2]

/-- Settles O25: as for the pairs before, with the bank's `full` bit, the toggle and the wrapped cursor. -/
theorem tickFillsABank : Obligations.TickFillsABank := by
  intro s inp hruns hen hbusy hcur
  have hacc : acceptSignal s inp = true := (acceptSignal_iff s inp).2 ⟨hen, hbusy⟩
  refine ⟨by simp [acceptRow_eq, hen, hbusy, (cursorLast_iff s).2 hcur], _, exec_tick_of_runs hruns,
    ?x, ?stored, ?y, ?full, ?awb, ?cursor⟩
  case x => simp [xAt_tickStep, hacc, hcur]
  case stored => simp [yAt_tickStep, hacc, hcur]
  case y => exact fun b i h => by rw [yAt_tickStep, hcur, if_neg fun hk => h hk.2]
  case full => simp [getFlag_full_awb_tickStep, hacc, hcur]
  case awb => simp [tickStep_awb, hacc, hcur]
  case cursor => simp [tickStep_writeCursor, hacc, hcur]

/-- Settles O26: with no accepted pair only the chain moves what the write path owns. -/
theorem tickStoresNothingWithoutAnAcceptedPulse : Obligations.TickStoresNothingWithoutAnAcceptedPulse := by
  intro s inp hruns hno
  have hacc : acceptSignal s inp = false := (acceptSignal_false_iff s inp).2 hno
  refine ⟨fun hen => ?drop, fun hen => ⟨busy s, cursorLast s, by simp [acceptRow_eq, hen]⟩, _, exec_tick_of_runs hruns,
    ?x, ?y, ?cursor, ?awb, ?full⟩
  case drop =>
    have hbusy : busy s = true := hno.resolve_left (by simp [hen])
    exact ⟨cursorLast s, by simp [acceptRow_eq, hen, hbusy]⟩
  case x => simp [xAt_tickStep, hacc]
  case y => simp [yAt_tickStep, hacc]
  case cursor => simp [tickStep_writeCursor, hacc]
  case awb => simp [tickStep_awb, hacc]
  case full => simp [getFlag_full_awb_tickStep, hacc]

/-- The sample levels of an input enter a tick with an accepted pair only. -/
theorem composeTick_ignores_samples (s : State) (inp : TickIn) (xv yv : Sample) (n : State) (h : inp.enRe = false) :
    composeTick s { inp with xk := xv, yk := yv } n = composeTick s inp n := by
  have hacc : acceptSignal s inp = false := (acceptSignal_false_iff s inp).2 (.inl h)
  have hacc' : acceptSignal s { inp with xk := xv, yk := yv } = false := hacc
  rw [composeTick_eq, composeTick_eq, hacc, hacc']
  rfl

/-- Settles O27: neither the policy's test nor the composed state reads them. -/
theorem sampleLevelsAreIgnoredWithoutAPulse : Obligations.SampleLevelsAreIgnoredWithoutAPulse := by
  intro s inp xv yv h
  have hcase : unsettledCase s { inp with xk := xv, yk := yv } = unsettledCase s inp := rfl
  simp only [exec, execTick, runTick, hcase, composeTick_ignores_samples s inp xv yv s h]

/-! ### The drain decision and the control chain -/

theorem drainRow_eq (s : State) : decodeDrn2 (drn2Word s) =
    if getFlag s.full (drainBank s) then (if getFlag s.processing (drainBank s) then .noDrainHeld else .drain)
    else .noDrain (getFlag s.processing (drainBank s)) := decodeDrn2_bits2 _ _

/-- Settles O28, by the drain signal. -/
theorem tickDrainsAFullBank : Obligations.TickDrainsAFullBank := by
  intro s inp hruns
  refine ⟨_, exec_tick_of_runs hruns, fun h => ?drains, fun h => ?holds⟩
  case drains =>
    have hd : drainSignal s = true := (drainSignal_iff s).2 h
    refine ⟨by simp [drainRow_eq, h], by simp [hd], by simp [getFlag_full_drainBank_tickStep, hd], ?_⟩
    cases hf : isFlushDoneTick s inp <;> simp [getFlag_processing_tickStep, hd, hf]
  case holds =>
    have hd : drainSignal s = false := by rwa [← drainSignal_iff, Bool.not_eq_true] at h
    refine ⟨?_, by simp [hd], by simp [getFlag_full_drainBank_tickStep, hd]⟩
    rw [drainRow_eq]
    split_ifs with hf hp
    · exact .inl rfl
    · exact absurd ⟨hf, by simpa using hp⟩ h
    · exact .inr ⟨_, rfl⟩

/-- The CTRL4 row a tick selects (R165). -/
theorem chainRow_eq (s : State) (inp : TickIn) : decodeCtrl4 (ctrl4Word s inp) =
    if s.startSum then .acc inp.doneRe s.flushPending inp.doneLvl
    else if inp.doneRe then .flushStart s.flushPending inp.doneLvl
    else if s.flushPending then .flushDone inp.doneLvl
    else if inp.doneLvl then .validHold else .validClear := decodeCtrl4_bits4 _ _ _ _

/-- Settles O29: the table's rows are read in the order of R165. -/
theorem controlChainPriority : Obligations.ControlChainPriority := by
  intro s inp
  rw [chainRow_eq]
  refine ⟨fun hs => ⟨_, _, _, if_pos hs⟩, fun hs hd => ?_, fun hs hd hf => ?_, fun hs hd hf hl => ?_,
    fun hs hd hf hl => ?_⟩ <;> simp [*]

/-- Settles O30: with `start_sum` the chain is ACC, whatever the done pulse. -/
theorem accTickFoldsTheDrainBank : Obligations.AccTickFoldsTheDrainBank := by
  intro s inp hruns hs
  have hf := isFlushDoneTick_of_startSum (inp := inp) hs
  refine ⟨_, exec_tick_of_runs hruns, by simp [tickStep_accumulator, hs],
    fun i => by simp [yAt_tickStep, slot_inj, drainBank_ne, hs],
    fun i => by simp [xAt_tickStep, slot_inj, drainBank_ne], ?_, ?_, by simp [tickStep_valid, hs, hf],
    by simp [tickStep_result, hf], by simp [tickStep_flushPending, hs, hf]⟩
  · simp [getFlag_processing_tickStep, hs, hf]
  · simp [getFlag_processing_tickStep, hs, hf, awb_ne_drainBank]

/-- Settles O31: a done pulse without `start_sum` is FLUSH_START. -/
theorem flushStartTickSwitchesBanks : Obligations.FlushStartTickSwitchesBanks := by
  intro s inp hruns hs hd
  have hf := isFlushDoneTick_of_doneRe (s := s) hd
  refine ⟨_, exec_tick_of_runs hruns, by simp [tickStep_awb, hs, hd], by simp [tickStep_flushPending, hs, hd], ?_,
    by simp [tickStep_valid, hd, hf], by simp [tickStep_result, hf], by simp [tickStep_accumulator, hs, hf],
    fun hacc => by simp [tickStep_writeCursor, hf, hacc]⟩
  simp [getFlag_processing_tickStep, hs, hd, hf, awb_ne_drainBank]

/-- Settles O32: a pending flush without a done pulse is FLUSH_DONE. -/
theorem flushDoneTickPublishes : Obligations.FlushDoneTickPublishes := by
  intro s inp hruns hs hd hp
  have hf : isFlushDoneTick s inp = true := (isFlushDoneTick_iff s inp).2 ⟨hs, hd, hp⟩
  refine ⟨_, exec_tick_of_runs hruns, by simp [tickStep_result, hf], by simp [tickStep_valid, hf],
    by simp [tickStep_accumulator, hs, hf], by simp [tickStep_processing, hf], by simp [tickStep_writeCursor, hf],
    by simp [tickStep_flushPending, hd, hf], fun i => by simp [yAt_tickStep, slot_inj, drainBank_ne, hs],
    fun hacc => ⟨by simp [tickStep_awb, hacc, hd], fun hdr => full_tickStep_of_no_drain hacc hdr⟩⟩

/-- No unsettled case holds of a tick whose chain is idle. -/
theorem isUnsettled_of_idle_chain {s : State} {inp : TickIn} (hd : inp.doneRe = false) (hp : s.flushPending = false)
    (u : Unsettled) : isUnsettled s inp u = false := by
  cases u <;> simp [isUnsettled, hd, hp]

/-- Settles O33: such a tick always runs, and only VALID_CLEAR writes. -/
theorem idleTickClearsOrHoldsValid : Obligations.IdleTickClearsOrHoldsValid := by
  intro s inp hs hd hp
  have hf := isFlushDoneTick_of_not_pending (inp := inp) hp
  refine ⟨_, exec_tick_of_runs (.inr (isUnsettled_of_idle_chain hd hp)), ?_, by simp [tickStep_result, hf],
    by simp [tickStep_accumulator, hs, hf], by simp [tickStep_flushPending, hd, hf, hp], fun hacc k => ?_⟩
  · cases hl : inp.doneLvl <;> simp [tickStep_valid, hs, hd, hf, hl]
  · obtain ⟨b, i, rfl⟩ := exists_slot k
    simp [yAt_tickStep, hacc, hs]

/-! ### The writes of one tick together -/

theorem cursor_succ_toNat_mod (c : Cursor) : (c + 1).toNat = (c.toNat + 1) % 16 := by bv_omega

/-- Settles O34, by the three fields two rules may write. -/
theorem overlappingWritesResolve : Obligations.OverlappingWritesResolve := by
  intro s inp hruns
  refine ⟨_, exec_tick_of_runs hruns, tickStep_awb s inp, getFlag_processing_tickStep s inp, ?_⟩
  rw [tickStep_writeCursor, apply_ite BitVec.toNat, apply_ite BitVec.toNat, cursor_succ_toNat_mod]
  rfl

/-- Settles O35, by every other field. -/
theorem otherWritesLandApart : Obligations.OtherWritesLandApart := by
  intro s inp hruns
  obtain ⟨⟨hcfg, hev, hrd, hsig⟩, hpulse, hregs⟩ := composeTick_frame s inp s
  exact ⟨_, exec_tick_of_runs hruns, fun i h => awb_ne_drainBank s ((slot_inj _ _ _ _).1 h).1, xAt_tickStep s inp,
    yAt_tickStep s inp, getFlag_full_awb_tickStep s inp, getFlag_full_drainBank_tickStep s inp, tickStep_startSum s inp,
    tickStep_flushPending s inp, tickStep_accumulator s inp, tickStep_result s inp, tickStep_valid s inp, hpulse, hregs,
    hcfg, hev, hrd, hsig⟩

end Sys2Proof.Machine
end

section
/-! What each instruction can answer, once for all of them, and the statements that follow over every instruction and
every step (10_state.md, R6, R31, R79, R188, R197, R200). -/

namespace Sys2Proof.Machine

/-! ### The answers of an instruction -/

/-- What the next state of an instruction can be: a function or a read leaves its value, a row that is not selected
leaves the state, a selected row makes its writes, PULSE, TICK and REGS run R187 and R188, and a write of a register
keeps its data. The first three cases, which touch nothing but `signal` and `readData`, name no instruction. -/
inductive Reaches (s : State) : Instr → State → Prop
  | value (i : Instr) (v : Word) : Reaches s i (present v s)
  | data (i : Instr) (v : Word) : Reaches s i (returnData v s)
  | unselected (i : Instr) : Reaches s i s
  | acceptWrite (hbusy : busy s = false) : Reaches s .acceptWrite (acceptWriteWrites s (rowInput s true false) s)
  | acceptLast (hbusy : busy s = false) (hcur : s.writeCursor = 15) :
    Reaches s .acceptLast (acceptLastWrites s (rowInput s true false) s)
  | drain : Reaches s .drain (drainWrites s s)
  | noDrain (p : Bool) : Reaches s (.noDrain p) (noDrainWrites s)
  | noDrainHeld : Reaches s .noDrainHeld (noDrainHeldWrites s)
  | acc (de fp dl : Bool) (hsum : s.startSum = true) :
    Reaches s (.acc de fp dl) (accWrites s (rowInput s false false) s)
  | flushStart (fp dl : Bool) : Reaches s (.flushStart fp dl) (flushStartWrites s s)
  | flushDone (dl : Bool) : Reaches s (.flushDone dl) (flushDoneWrites s (rowInput s false false) s)
  | validClear : Reaches s .validClear (validClearWrites s)
  | pulse : Reaches s .pulse
    { pulseWrites s (regLevels s) s with signal := .bundle (pulseBundle s (regLevels s)) }
  | tick (inp : TickIn) : Reaches s (.tick inp) (tickStep s inp)
  | regs (lv : RegsIn) : Reaches s (.regs lv) (pulseWrites s lv (tickStep s (pulseBundle s lv)))
  | wrXk (v : Nat) : Reaches s (.wrXk v) { s with xkVal := sampleOf v }
  | wrYk (v : Nat) : Reaches s (.wrYk v) { s with ykVal := sampleOf v }
  | wrExp (v : Nat) : Reaches s (.wrExp v) { s with expReg := exponentOf v }
  | wrEnable (v : Nat) : Reaches s (.wrEnable v)
    { s with enableReg := bitOf v, enableStrobe := strobeOf s.cfg s.enableStrobe }
  | wrDone (v : Nat) : Reaches s (.wrDone v)
    { s with doneReg := bitOf v, doneStrobe := strobeOf s.cfg s.doneStrobe }

/-- A row alone reaches the state of its writes, where it is selected, or the same state. -/
theorem reaches_of_fireRow {s t : State} {i : Instr} {selected : Bool} {w : State → State}
    (h : fireRow selected w s = .next t) (hw : selected = true → Reaches s i (w s)) : Reaches s i t := by
  obtain ⟨hsel, rfl⟩ | ⟨-, rfl⟩ := fireRow_next selected w s t h
  · exact hw hsel
  · exact .unselected i

/-- The next state of an instruction is one of its answers. -/
theorem reaches_of_exec {s t : State} {i : Instr} (h : exec i s = .next t) : Reaches s i t := by
  cases i with
  | pow0 | pow1 | pow2 | pow3 | pow4 | powSent5 | powSent6 | powSent7 | mul | lane | tree | bankSum | busy =>
    exact Host.Outcome.next.inj h ▸ .value _ _
  | rdResult | rdValid | rdBusy => exact Host.Outcome.next.inj h ▸ .data _ _
  | noWrite | dropWrite | validHold => exact reaches_of_fireRow h fun _ => .unselected _
  | acceptWrite => exact reaches_of_fireRow h fun hsel => .acceptWrite (by simp_all)
  | acceptLast => exact reaches_of_fireRow h fun hsel => .acceptLast (by simp_all) (by simp_all [cursorLast_iff])
  | drain => exact reaches_of_fireRow h fun _ => .drain
  | noDrain p => exact reaches_of_fireRow h fun _ => .noDrain p
  | noDrainHeld => exact reaches_of_fireRow h fun _ => .noDrainHeld
  | acc de fp dl => exact reaches_of_fireRow h fun hsel => .acc de fp dl hsel
  | flushStart fp dl => exact reaches_of_fireRow h fun _ => .flushStart fp dl
  | flushDone dl => exact reaches_of_fireRow h fun _ => .flushDone dl
  | validClear => exact reaches_of_fireRow h fun _ => .validClear
  | pulse => exact Host.Outcome.next.inj h ▸ .pulse
  | tick inp => exact exec_tick_next s t inp h ▸ .tick inp
  | regs lv => exact exec_regs_next s t lv h ▸ .regs lv
  | wrXk v => exact Host.Outcome.next.inj h ▸ .wrXk v
  | wrYk v => exact Host.Outcome.next.inj h ▸ .wrYk v
  | wrExp v => exact Host.Outcome.next.inj h ▸ .wrExp v
  | wrEnable v => exact Host.Outcome.next.inj h ▸ .wrEnable v
  | wrDone v => exact Host.Outcome.next.inj h ▸ .wrDone v

/-- An instruction has a next state, or is a tick refused under REFUSE by an unsettled case (R197). -/
theorem exec_cases (s : State) (i : Instr) : (∃ t, exec i s = .next t) ∨
    ∃ u, s.cfg.unsettledPolicy = .refuse ∧ exec i s = .refused (.unsettledTick u) := by
  have htick (inp : TickIn) (n : State) : (∃ t, runTick s inp n = .next t) ∨
      ∃ u, s.cfg.unsettledPolicy = .refuse ∧ runTick s inp n = .refused (.unsettledTick u) := by
    obtain h | ⟨u, hp, -, h⟩ := runTick_cases s inp n
    · exact .inl ⟨_, h⟩
    · exact .inr ⟨u, hp, h⟩
  cases i with
  | tick inp => exact htick inp s
  | regs lv => exact htick _ _
  | _ => exact .inl ⟨_, rfl⟩

/-! ### What no instruction writes -/

@[simp] theorem tickStep_cfg (s : State) (inp : TickIn) : (tickStep s inp).cfg = s.cfg := composeTick_cfg s inp s

@[simp] theorem tickStep_events (s : State) (inp : TickIn) : (tickStep s inp).events = s.events :=
  composeTick_events s inp s

theorem Reaches.cfg_eq {s t : State} {i : Instr} (h : Reaches s i t) : t.cfg = s.cfg := by
  cases h with
  | pulse => exact pulseWrites_cfg s _ s
  | tick inp => exact tickStep_cfg s inp
  | regs lv => exact (pulseWrites_cfg s lv _).trans (tickStep_cfg s _)
  | _ => rfl

theorem Reaches.events_eq {s t : State} {i : Instr} (h : Reaches s i t) : t.events = s.events := by
  cases h with
  | pulse => exact pulseWrites_events s _ s
  | tick inp => exact tickStep_events s inp
  | regs lv => exact (pulseWrites_events s lv _).trans (tickStep_events s _)
  | _ => rfl

/-- Settles O48: no answer of an instruction changes a parameter, and a reset event keeps them. -/
theorem parametersNeverChange : Obligations.ParametersNeverChange := by
  refine ⟨fun s t i h => (reaches_of_exec h).cfg_eq, fun s t h => ?_⟩
  obtain ⟨-, h⟩ | ⟨rest, -, h⟩ | ⟨c, rest, i, -, -, h⟩ | ⟨c, rest, addr, -, -, rfl⟩ | ⟨rest, -, rfl⟩ :=
    step_next_cases s t h
  · exact (reaches_of_exec h).cfg_eq
  · exact (reaches_of_exec h).cfg_eq
  · exact (reaches_of_exec h).cfg_eq
  · rfl
  · rfl

theorem tickStep_hostRegisters (s : State) (inp : TickIn) : sameHostRegisters s (tickStep s inp) :=
  (composeTick_frame s inp s).2.2

/-- Settles O49: of the answers only a register's own write changes it. -/
theorem onlyTheHostWritesItsRegisters : Obligations.OnlyTheHostWritesItsRegisters := by
  intro s t i h
  cases reaches_of_exec h with
  | wrXk v => exact ⟨fun hne => absurd rfl (hne v), fun _ => rfl, fun _ => rfl, fun _ => rfl, fun _ => rfl⟩
  | wrYk v => exact ⟨fun _ => rfl, fun hne => absurd rfl (hne v), fun _ => rfl, fun _ => rfl, fun _ => rfl⟩
  | wrExp v => exact ⟨fun _ => rfl, fun _ => rfl, fun hne => absurd rfl (hne v), fun _ => rfl, fun _ => rfl⟩
  | wrEnable v => exact ⟨fun _ => rfl, fun _ => rfl, fun _ => rfl, fun hne => absurd rfl (hne v), fun _ => rfl⟩
  | wrDone v => exact ⟨fun _ => rfl, fun _ => rfl, fun _ => rfl, fun _ => rfl, fun hne => absurd rfl (hne v)⟩
  | pulse => simp
  | tick inp =>
    obtain ⟨hx, hy, he, hen, hd⟩ := tickStep_hostRegisters s inp
    exact ⟨fun _ => hx, fun _ => hy, fun _ => he, fun _ => hen, fun _ => hd⟩
  | regs lv =>
    obtain ⟨hx, hy, he, hen, hd⟩ := tickStep_hostRegisters s (pulseBundle s lv)
    simp [hx, hy, he, hen, hd]
  | _ => exact ⟨fun _ => rfl, fun _ => rfl, fun _ => rfl, fun _ => rfl, fun _ => rfl⟩

/-! ### The flush state and its writers -/

theorem flushPending_changed {s : State} {inp : TickIn} (h : (tickStep s inp).flushPending ≠ s.flushPending) :
    s.startSum = false ∧ (inp.doneRe = true ∨ isFlushDoneTick s inp = true) := by
  rw [tickStep_flushPending] at h
  split_ifs at h with hstart hdone
  · exact ⟨hstart.1, .inl hstart.2⟩
  · exact ⟨((isFlushDoneTick_iff s inp).1 hdone).1, .inr hdone⟩
  · exact absurd rfl h

theorem accumulator_changed {s : State} {inp : TickIn} (h : (tickStep s inp).accumulator ≠ s.accumulator) :
    s.startSum = true ∨ isFlushDoneTick s inp = true := by
  rw [tickStep_accumulator] at h
  split_ifs at h with hs hdone
  · exact .inl hs
  · exact .inr hdone
  · exact absurd rfl h

theorem result_changed {s : State} {inp : TickIn} (h : (tickStep s inp).result ≠ s.result) :
    isFlushDoneTick s inp = true := by
  rw [tickStep_result] at h
  split_ifs at h with hdone
  · exact hdone
  · exact absurd rfl h

theorem valid_changed {s : State} {inp : TickIn} (h : (tickStep s inp).valid ≠ s.valid) :
    isFlushDoneTick s inp = true ∨ branch s inp = .validClear := by
  rw [tickStep_valid] at h
  split_ifs at h with hdone hclear
  · exact .inl hdone
  · obtain ⟨hs, hd, hl⟩ := hclear
    have hp : s.flushPending = false := by simpa [isFlushDoneTick, hs, hd] using hdone
    exact .inr ((branch_validClear_iff s inp).2 ⟨hs, hd, hp, hl⟩)
  · exact absurd rfl h

/-- Settles O50: each row by what it writes, TICK and REGS by the tick of their bundle. -/
theorem flushStateHasOnlyItsWriters : Obligations.FlushStateHasOnlyItsWriters := by
  intro s t i h
  cases reaches_of_exec h with
  | acc de fp dl _ =>
    exact ⟨absurd rfl, fun _ => .inl ⟨de, fp, dl, rfl⟩, absurd rfl, absurd rfl⟩
  | flushStart fp dl =>
    exact ⟨fun _ => .inl ⟨fp, dl, rfl⟩, absurd rfl, absurd rfl, absurd rfl⟩
  | flushDone dl =>
    exact ⟨fun _ => .inr (.inl ⟨dl, rfl⟩), fun _ => .inr (.inl ⟨dl, rfl⟩), fun _ => .inl ⟨dl, rfl⟩,
      fun _ => .inl ⟨dl, rfl⟩⟩
  | validClear =>
    exact ⟨absurd rfl, absurd rfl, absurd rfl, fun _ => .inr (.inl rfl)⟩
  | pulse => simp
  | tick inp =>
    exact ⟨fun h => .inr (.inr ⟨inp, .inl rfl, flushPending_changed h⟩),
      fun h => .inr (.inr ⟨inp, .inl rfl, accumulator_changed h⟩), fun h => .inr ⟨inp, .inl rfl, result_changed h⟩,
      fun h => .inr (.inr ⟨inp, .inl rfl, valid_changed h⟩)⟩
  | regs lv =>
    simp only [pulseWrites_flushPending, pulseWrites_accumulator, pulseWrites_result, pulseWrites_valid]
    exact ⟨fun h => .inr (.inr ⟨_, .inr ⟨lv, rfl, rfl⟩, flushPending_changed h⟩),
      fun h => .inr (.inr ⟨_, .inr ⟨lv, rfl, rfl⟩, accumulator_changed h⟩),
      fun h => .inr ⟨_, .inr ⟨lv, rfl, rfl⟩, result_changed h⟩,
      fun h => .inr (.inr ⟨_, .inr ⟨lv, rfl, rfl⟩, valid_changed h⟩)⟩
  | _ => exact ⟨absurd rfl, absurd rfl, absurd rfl, absurd rfl⟩

/-! ### The sample space and its writers -/

@[simp] theorem xAt_pulseWrites (s : State) (lv : RegsIn) (n : State) (k : Slot) :
    xAt (pulseWrites s lv n) k = xAt n k := by simp [xAt]

@[simp] theorem yAt_pulseWrites (s : State) (lv : RegsIn) (n : State) (k : Slot) :
    yAt (pulseWrites s lv n) k = yAt n k := by simp [yAt]

/-- A stored pair changes its own slot only. -/
theorem xAt_storePair_changed {s : State} {b c : Bank} {i k : Cursor} (xv yv : Sample)
    (h : xAt (storePair (slot b i) xv yv s) (slot c k) ≠ xAt s (slot c k)) : c = b ∧ k = i := by
  rw [xAt_storePair] at h
  split_ifs at h with hk
  · exact (slot_inj _ _ _ _).1 hk
  · exact absurd rfl h

theorem yAt_storePair_changed {s : State} {b c : Bank} {i k : Cursor} (xv yv : Sample)
    (h : yAt (storePair (slot b i) xv yv s) (slot c k) ≠ yAt s (slot c k)) : c = b ∧ k = i := by
  rw [yAt_storePair] at h
  split_ifs at h with hk
  · exact (slot_inj _ _ _ _).1 hk
  · exact absurd rfl h

theorem yAt_zeroBankY_changed {s : State} {b c : Bank} {k : Cursor}
    (h : yAt (zeroBankY b s) (slot c k) ≠ yAt s (slot c k)) : c = b ∧ yAt (zeroBankY b s) (slot c k) = 0 := by
  rw [yAt_zeroBankY] at h ⊢
  split_ifs at h ⊢ with hk
  · exact ⟨(slot_in_bank_iff _ _ _).1 hk, rfl⟩
  · exact absurd rfl h

theorem xAt_tickStep_changed {s : State} {inp : TickIn} {b : Bank} {k : Cursor}
    (h : xAt (tickStep s inp) (slot b k) ≠ xAt s (slot b k)) :
    b = s.awb ∧ k = s.writeCursor ∧ busy s = false ∧ inp.enRe = true := by
  rw [xAt_tickStep] at h
  split_ifs at h with hk
  · obtain ⟨hacc, hslot⟩ := hk
    obtain ⟨hen, hbusy⟩ := (acceptSignal_iff s inp).1 hacc
    obtain ⟨hb, hc⟩ := (slot_inj _ _ _ _).1 hslot
    exact ⟨hb, hc, hbusy, hen⟩
  · exact absurd rfl h

theorem yAt_tickStep_changed {s : State} {inp : TickIn} {b : Bank} {k : Cursor}
    (h : yAt (tickStep s inp) (slot b k) ≠ yAt s (slot b k)) :
    (b = s.awb ∧ k = s.writeCursor ∧ busy s = false ∧ inp.enRe = true) ∨
    (b = drainBank s ∧ s.startSum = true ∧ yAt (tickStep s inp) (slot b k) = 0) := by
  rw [yAt_tickStep] at h ⊢
  split_ifs at h ⊢ with hk hz
  · obtain ⟨hacc, hslot⟩ := hk
    obtain ⟨hen, hbusy⟩ := (acceptSignal_iff s inp).1 hacc
    obtain ⟨hb, hc⟩ := (slot_inj _ _ _ _).1 hslot
    exact .inl ⟨hb, hc, hbusy, hen⟩
  · exact .inr ⟨hz.2, hz.1, rfl⟩
  · exact absurd rfl h

/-- Settles O51: the accepting rows store at the cursor, ACC zeroes, and a tick does either. -/
theorem sampleSpaceHasOnlyItsWriters : Obligations.SampleSpaceHasOnlyItsWriters := by
  intro s t i b k h
  cases reaches_of_exec h with
  | acceptWrite hbusy =>
    refine ⟨fun hx => ?_, fun hy => .inl ?_⟩
    · obtain ⟨hb, hk⟩ := xAt_storePair_changed s.xkVal s.ykVal hx
      exact ⟨hb, hk, hbusy, .inl rfl⟩
    · obtain ⟨hb, hk⟩ := yAt_storePair_changed s.xkVal s.ykVal hy
      exact ⟨hb, hk, hbusy, .inl rfl⟩
  | acceptLast hbusy hcur =>
    refine ⟨fun hx => ?_, fun hy => .inl ?_⟩
    · obtain ⟨hb, hk⟩ := xAt_storePair_changed s.xkVal s.ykVal hx
      exact ⟨hb, hk.trans hcur.symm, hbusy, .inr (.inl rfl)⟩
    · obtain ⟨hb, hk⟩ := yAt_storePair_changed s.xkVal s.ykVal hy
      exact ⟨hb, hk.trans hcur.symm, hbusy, .inr (.inl rfl)⟩
  | acc de fp dl hsum =>
    refine ⟨absurd rfl, fun hy => .inr ?_⟩
    obtain ⟨hb, hz⟩ := yAt_zeroBankY_changed hy
    exact ⟨hb, hsum, hz, .inl ⟨de, fp, dl, rfl⟩⟩
  | pulse => simp [xAt, yAt]
  | tick inp =>
    refine ⟨fun hx => ?_, fun hy => ?_⟩
    · obtain ⟨hb, hk, hbusy, hen⟩ := xAt_tickStep_changed hx
      exact ⟨hb, hk, hbusy, .inr (.inr ⟨inp, .inl rfl, hen⟩)⟩
    · obtain ⟨hb, hk, hbusy, hen⟩ | ⟨hb, hs, hz⟩ := yAt_tickStep_changed hy
      · exact .inl ⟨hb, hk, hbusy, .inr (.inr ⟨inp, .inl rfl, hen⟩)⟩
      · exact .inr ⟨hb, hs, hz, .inr (.inl ⟨inp, rfl⟩)⟩
  | regs lv =>
    simp only [xAt_pulseWrites, yAt_pulseWrites]
    refine ⟨fun hx => ?_, fun hy => ?_⟩
    · obtain ⟨hb, hk, hbusy, hen⟩ := xAt_tickStep_changed hx
      exact ⟨hb, hk, hbusy, .inr (.inr ⟨_, .inr ⟨lv, rfl, rfl⟩, hen⟩)⟩
    · obtain ⟨hb, hk, hbusy, hen⟩ | ⟨hb, hs, hz⟩ := yAt_tickStep_changed hy
      · exact .inl ⟨hb, hk, hbusy, .inr (.inr ⟨_, .inr ⟨lv, rfl, rfl⟩, hen⟩)⟩
      · exact .inr ⟨hb, hs, hz, .inr (.inr ⟨lv, rfl⟩)⟩
  | _ => exact ⟨absurd rfl, absurd rfl⟩

end Sys2Proof.Machine
end

section
/-! PULSE and the pulse state, the steps of the machine, and its reset (R40, R79, R188, R197, R200, R222, R223). -/

namespace Sys2Proof.Machine

/-! ### PULSE and REGS -/

theorem pulseWrites_risingEdge {s : State} (h : s.cfg.pulseSource = .risingEdge) (lv : RegsIn) (n : State) :
    pulseWrites s lv n = { n with enableQ := lv.enable, doneQ := lv.done } := by
  rw [pulseWrites, h]

theorem pulseWrites_writeStrobe {s : State} (h : s.cfg.pulseSource = .writeStrobe) (lv : RegsIn) (n : State) :
    pulseWrites s lv n = { n with enableStrobe := false, doneStrobe := false } := by
  rw [pulseWrites, h]

theorem pulseBundle_risingEdge {s : State} (h : s.cfg.pulseSource = .risingEdge) (lv : RegsIn) : pulseBundle s lv =
    ⟨lv.xkVal, lv.ykVal, lv.exp, lv.enable && !s.enableQ, lv.done && !s.doneQ, lv.done⟩ := by
  rw [pulseBundle, h]

theorem pulseBundle_writeStrobe {s : State} (h : s.cfg.pulseSource = .writeStrobe) (lv : RegsIn) : pulseBundle s lv =
    ⟨lv.xkVal, lv.ykVal, lv.exp, s.enableStrobe, s.doneStrobe, lv.done⟩ := by
  rw [pulseBundle, h]

theorem pulses_risingEdge {s : State} (h : s.cfg.pulseSource = .risingEdge) (lv : RegsIn) :
    (pulseBundle s lv).enRe = (lv.enable && !s.enableQ) ∧ (pulseBundle s lv).doneRe = (lv.done && !s.doneQ) := by
  rw [pulseBundle_risingEdge h]
  exact ⟨rfl, rfl⟩

theorem pulses_writeStrobe {s : State} (h : s.cfg.pulseSource = .writeStrobe) (lv : RegsIn) :
    (pulseBundle s lv).enRe = s.enableStrobe ∧ (pulseBundle s lv).doneRe = s.doneStrobe := by
  rw [pulseBundle_writeStrobe h]
  exact ⟨rfl, rfl⟩

theorem exec_pulse (s : State) : exec .pulse s =
    .next { pulseWrites s (regLevels s) s with signal := .bundle (pulseBundle s (regLevels s)) } := rfl

/-- Settles O38, by the two sources. -/
theorem pulseDerivesTheBundle : Obligations.PulseDerivesTheBundle := by
  intro s
  constructor <;> intro h
  · rw [exec_pulse, pulseWrites_risingEdge h, pulseBundle_risingEdge h]
    rfl
  · rw [exec_pulse, pulseWrites_writeStrobe h, pulseBundle_writeStrobe h]
    rfl

/-- A REGS word runs the tick of its bundle, and PULSE's writes land beside the tick's. -/
theorem exec_regs_of_runs {s : State} {lv : RegsIn} (h : tickRuns s (pulseBundle s lv)) :
    exec (.regs lv) s = .next (pulseWrites s lv (tickStep s (pulseBundle s lv))) := by
  rw [← composeTick_pulseWrites]
  obtain h | h := h
  · exact runTick_reference s _ _ h
  · exact runTick_settled s _ _ ((unsettledCase_none s _).2 h)

/-- Settles O39, by the bundle and the writes of each source. -/
theorem regsRunsThePulsedTick : Obligations.RegsRunsThePulsedTick := by
  intro s lv
  constructor
  · rintro hsrc _ rfl hruns
    rw [← pulseBundle_risingEdge hsrc] at hruns ⊢
    rw [exec_regs_of_runs hruns, pulseWrites_risingEdge hsrc]
  · rintro hsrc _ rfl hruns
    rw [← pulseBundle_writeStrobe hsrc] at hruns ⊢
    rw [exec_regs_of_runs hruns, pulseWrites_writeStrobe hsrc]

/-- Under RISING_EDGE a REGS word leaves its levels in the edge history. -/
theorem regs_stores_levels {s t : State} {lv : RegsIn} (hsrc : s.cfg.pulseSource = .risingEdge)
    (h : exec (.regs lv) s = .next t) :
    t.cfg.pulseSource = .risingEdge ∧ t.enableQ = lv.enable ∧ t.doneQ = lv.done := by
  rw [exec_regs_next s t lv h, pulseWrites_risingEdge hsrc]
  exact ⟨by simp [hsrc], rfl, rfl⟩

/-- Under WRITE_STROBE a REGS word leaves no strobe. -/
theorem regs_clears_strobes {s t : State} {lv : RegsIn} (hsrc : s.cfg.pulseSource = .writeStrobe)
    (h : exec (.regs lv) s = .next t) :
    t.cfg.pulseSource = .writeStrobe ∧ t.enableStrobe = false ∧ t.doneStrobe = false := by
  rw [exec_regs_next s t lv h, pulseWrites_writeStrobe hsrc]
  exact ⟨by simp [hsrc], rfl, rfl⟩

theorem strobeOf_writeStrobe {cfg : Config} (h : cfg.pulseSource = .writeStrobe) (before : Bool) :
    strobeOf cfg before = true := by
  rw [strobeOf, h]

theorem strobeOf_risingEdge {cfg : Config} (h : cfg.pulseSource = .risingEdge) (before : Bool) :
    strobeOf cfg before = before := by
  rw [strobeOf, h]

/-- Settles O40: the levels in the edge history, or the strobes, are those the tick before left. -/
theorem pulsesAreConsumedOnce : Obligations.PulsesAreConsumedOnce := by
  refine ⟨fun s t lv lv' hsrc h => ?_, fun s v w lv hsrc => ?_, fun s v w lv hsrc => ?_⟩
  · obtain ⟨ht, hen, hdone⟩ := regs_stores_levels hsrc h
    obtain ⟨henRe, hdoneRe⟩ := pulses_risingEdge ht lv'
    rw [henRe, hdoneRe, hen, hdone]
    exact ⟨fun h => by simp [h], fun h => by simp [h], fun h => by simp [h], fun h => by simp [h]⟩
  · refine ⟨_, _, rfl, rfl, ?_, fun a lv' h => ?_⟩
    · exact (pulses_writeStrobe (by exact hsrc) lv).1.trans (strobeOf_writeStrobe hsrc _)
    · obtain ⟨ha, hen, -⟩ := regs_clears_strobes (by exact hsrc) h
      exact (pulses_writeStrobe ha lv').1.trans hen
  · refine ⟨_, _, rfl, rfl, ?_, fun a lv' h => ?_⟩
    · exact (pulses_writeStrobe (by exact hsrc) lv).2.trans (strobeOf_writeStrobe hsrc _)
    · obtain ⟨ha, -, hdone⟩ := regs_clears_strobes (by exact hsrc) h
      exact (pulses_writeStrobe ha lv').2.trans hdone

/-! ### The host's accesses -/

theorem bitOf_toNat (v : Nat) : (bitOf v).toNat = v % 2 := by
  rcases Nat.mod_two_eq_zero_or_one v with h | h <;> simp [bitOf, h]

theorem bitOf_of_odd {v : Nat} (h : v % 2 = 1) : bitOf v = true := by simp [bitOf, h]

/-- Settles O41, by the value each register keeps of its data word. -/
theorem registerWritesKeepTheLowBits : Obligations.RegisterWritesKeepTheLowBits := by
  intro s v
  have hen : exec (.wrEnable v) s =
      .next { s with enableReg := bitOf v, enableStrobe := strobeOf s.cfg s.enableStrobe } := rfl
  have hdone : exec (.wrDone v) s =
      .next { s with doneReg := bitOf v, doneStrobe := strobeOf s.cfg s.doneStrobe } := rfl
  refine ⟨⟨sampleOf v, BitVec.toNat_ofNat v 32, rfl⟩, ⟨sampleOf v, BitVec.toNat_ofNat v 32, rfl⟩,
    ⟨exponentOf v, BitVec.toNat_ofNat v 3, rfl⟩, ⟨bitOf v, bitOf_toNat v, fun h => ?_, fun h => ?_⟩,
    ⟨bitOf v, bitOf_toNat v, fun h => ?_, fun h => ?_⟩⟩
  · rw [hen, strobeOf_risingEdge h]
  · rw [hen, strobeOf_writeStrobe h]
  · rw [hdone, strobeOf_risingEdge h]
  · rw [hdone, strobeOf_writeStrobe h]

/-- Settles O42, by the bundle of the levels after the write. -/
theorem writtenLevelsReachTheNextTick : Obligations.WrittenLevelsReachTheNextTick := by
  intro s v
  refine ⟨⟨_, rfl, BitVec.toNat_ofNat v 32⟩, ⟨_, rfl, BitVec.toNat_ofNat v 32⟩, ⟨_, rfl, BitVec.toNat_ofNat v 3⟩,
    fun hsrc hq hv => ⟨_, rfl, ?_⟩, fun hsrc hq hv => ⟨_, rfl, ?_, bitOf_of_odd hv⟩⟩
  · exact (pulses_risingEdge (by exact hsrc) _).1.trans (by simp [regLevels, bitOf_of_odd hv, hq])
  · exact (pulses_risingEdge (by exact hsrc) _).2.trans (by simp [regLevels, bitOf_of_odd hv, hq])

/-- A bus of 64 bits or more takes `result` in one word. -/
theorem resultWords_of_wide {cfg : Config} (h : 64 ≤ cfg.busWidth) : resultWords cfg = 1 := by
  rw [resultWords, Nat.div_eq_iff (by omega)]
  omega

/-- R194: that word is the whole `result`. -/
theorem resultWord_of_wide {cfg : Config} (h : 64 ≤ cfg.busWidth) (r : Word) : resultWord cfg r 0 = r := by
  have hslice : resultSlice cfg 0 = 0 := by
    rw [resultSlice]
    split
    · rfl
    · rw [resultWords_of_wide h]
  have hlt : r.toNat < 2 ^ cfg.busWidth := r.isLt.trans_le (Nat.pow_le_pow_right (by decide) h)
  rw [resultWord, hslice, Nat.zero_mul, Nat.shiftRight_zero, Nat.mod_eq_of_lt hlt, BitVec.ofNat_toNat,
    BitVec.setWidth_eq]

theorem exec_rdResult (part : Nat) (s : State) :
    exec (.rdResult part) s = .next (returnData (resultWord s.cfg s.result part) s) := rfl

/-- Settles O43, by the word each read returns. -/
theorem registerReadsReturnTheStatus : Obligations.RegisterReadsReturnTheStatus := by
  intro s
  refine ⟨fun h => ?_, fun part => ⟨_, exec_rdResult part s⟩, rfl, rfl⟩
  rw [exec_rdResult, resultWord_of_wide h, returnData]

/-! ### The pulse state over all steps -/

theorem pulseStateFits_risingEdge {s : State} (h : s.cfg.pulseSource = .risingEdge) :
    pulseStateFits s ↔ s.enableStrobe = false ∧ s.doneStrobe = false := by
  rw [pulseStateFits, h]

theorem pulseStateFits_writeStrobe {s : State} (h : s.cfg.pulseSource = .writeStrobe) :
    pulseStateFits s ↔ s.enableQ = false ∧ s.doneQ = false := by
  rw [pulseStateFits, h]

/-- Only the parameters and the pulse state matter. -/
theorem pulseStateFits_of_same {s t : State} (hcfg : t.cfg = s.cfg) (hp : samePulseState s t) (h : pulseStateFits s) :
    pulseStateFits t := by
  obtain ⟨he, hd, hes, hds⟩ := hp
  unfold pulseStateFits at *
  rwa [hcfg, he, hd, hes, hds]

/-- PULSE writes the part of the pulse state that its source has. -/
theorem pulseStateFits_pulseWrites {s n : State} (lv : RegsIn) (hcfg : n.cfg = s.cfg) (h : pulseStateFits n) :
    pulseStateFits (pulseWrites s lv n) := by
  cases hsrc : s.cfg.pulseSource with
  | risingEdge =>
    have hn : n.cfg.pulseSource = .risingEdge := by rw [hcfg, hsrc]
    rw [pulseWrites_risingEdge hsrc]
    exact (pulseStateFits_risingEdge (by exact hn)).2 ((pulseStateFits_risingEdge hn).1 h)
  | writeStrobe =>
    have hn : n.cfg.pulseSource = .writeStrobe := by rw [hcfg, hsrc]
    rw [pulseWrites_writeStrobe hsrc]
    exact (pulseStateFits_writeStrobe (by exact hn)).2 ((pulseStateFits_writeStrobe hn).1 h)

theorem pulseStateFits_tickStep {s : State} (inp : TickIn) (h : pulseStateFits s) : pulseStateFits (tickStep s inp) :=
  pulseStateFits_of_same (tickStep_cfg s inp) (composeTick_frame s inp s).2.1 h

theorem pulseStateFits_initial (cfg : Config) (events : List Event) : pulseStateFits (State.initial cfg events) := by
  unfold pulseStateFits
  split <;> exact ⟨rfl, rfl⟩

/-- A write of `enable` or `done` sets a strobe under WRITE_STROBE only, and no edge history. -/
theorem pulseStateFits_strobed {s : State} (en done : Bool) (h : pulseStateFits s) :
    pulseStateFits { s with enableReg := en, enableStrobe := strobeOf s.cfg s.enableStrobe } ∧
    pulseStateFits { s with doneReg := done, doneStrobe := strobeOf s.cfg s.doneStrobe } := by
  cases hsrc : s.cfg.pulseSource with
  | risingEdge =>
    rw [strobeOf_risingEdge hsrc, strobeOf_risingEdge hsrc]
    exact ⟨pulseStateFits_of_same rfl ⟨rfl, rfl, rfl, rfl⟩ h, pulseStateFits_of_same rfl ⟨rfl, rfl, rfl, rfl⟩ h⟩
  | writeStrobe =>
    have hq := (pulseStateFits_writeStrobe hsrc).1 h
    exact ⟨(pulseStateFits_writeStrobe (by exact hsrc)).2 hq, (pulseStateFits_writeStrobe (by exact hsrc)).2 hq⟩

theorem Reaches.pulseStateFits {s t : State} {i : Instr} (h : Reaches s i t) (hs : pulseStateFits s) :
    pulseStateFits t := by
  cases h with
  | wrEnable v => exact (pulseStateFits_strobed (bitOf v) true hs).1
  | wrDone v => exact (pulseStateFits_strobed true (bitOf v) hs).2
  | pulse => exact pulseStateFits_of_same rfl ⟨rfl, rfl, rfl, rfl⟩ (pulseStateFits_pulseWrites (regLevels s) rfl hs)
  | tick inp => exact pulseStateFits_tickStep inp hs
  | regs lv => exact pulseStateFits_pulseWrites lv (tickStep_cfg s _) (pulseStateFits_tickStep _ hs)
  | _ => exact pulseStateFits_of_same rfl ⟨rfl, rfl, rfl, rfl⟩ hs

/-- Settles O52: every answer of an instruction keeps it, and a reset meets it. -/
theorem stepKeepsThePulseStateFitting : Obligations.StepKeepsThePulseStateFitting := by
  intro s t hs h
  have htaken (rest : List Event) : pulseStateFits { s with events := rest } :=
    pulseStateFits_of_same rfl ⟨rfl, rfl, rfl, rfl⟩ hs
  obtain ⟨-, h⟩ | ⟨rest, -, h⟩ | ⟨c, rest, i, -, -, h⟩ | ⟨c, rest, addr, -, -, rfl⟩ | ⟨rest, -, rfl⟩ :=
    step_next_cases s t h
  · exact (reaches_of_exec h).pulseStateFits hs
  · exact (reaches_of_exec h).pulseStateFits (htaken rest)
  · exact (reaches_of_exec h).pulseStateFits (htaken rest)
  · exact htaken rest
  · exact pulseStateFits_initial s.cfg rest

theorem steadyPhase_initial (cfg : Config) (events : List Event) : steadyPhase (State.initial cfg events) :=
  .inl ⟨rfl, rfl, rfl, rfl⟩

theorem refusingSteady_initial {cfg : Config} {events : List Event} (hpol : cfg.unsettledPolicy = .refuse)
    (hev : events.all isHostEvent = true) : refusingSteady (State.initial cfg events) :=
  ⟨hpol, hev, steadyPhase_initial cfg events⟩

/-- Settles O53: every element is 0 after reset, so both invariants hold there. -/
theorem resetMeetsTheInvariants : Obligations.ResetMeetsTheInvariants :=
  ⟨pulseStateFits_initial, pulseStateFits_initial _ _, fun _ _ => refusingSteady_initial⟩

/-! ### Steps -/

theorem step_of_instr {s : State} {c : Code} {rest : List Event} {i : Instr} (hev : s.events = .word c :: rest)
    (hd : decode s.cfg c = .instr i) : step s = exec (onBus s.cfg i) { s with events := rest } := by
  rw [step, fetch_word s c rest hev, hd, fetchDecoded]

/-- Settles O1: the bus carries a well-formed instruction as it stands. -/
theorem stepRunsTheDecodedInstruction : Obligations.StepRunsTheDecodedInstruction := by
  refine ⟨fun s c rest i hev hd hw => ?_, fun s c rest i hev hd => ⟨step_of_instr hev hd, onBus_wellFormed s.cfg i⟩⟩
  rw [step_of_instr hev hd, onBus_of_wellFormed s.cfg i hw]

/-- Settles O2, by what is fetched of each event. -/
theorem stepTicksWhenTheHostIsIdle : Obligations.StepTicksWhenTheHostIsIdle := by
  refine ⟨fun s h => ?_, fun s rest h => ?_, fun s rest h => ?_⟩ <;> (unfold step fetch; rw [h] <;> rfl)

/-- A code that decodes to a reservation is one of the reserved register codes (R79). -/
theorem reserved_of_decode {cfg : Config} {c : Code} {r : BitVec 4} (h : decode cfg c = .reserved r) :
    r.toNat ≤ 4 ∨ 13 ≤ r.toNat := by
  have hcsr (d : BitVec 4) (data : Nat) (h : decodeCsr d data = .reserved r) : r.toNat ≤ 4 ∨ 13 ≤ r.toNat := by
    obtain ⟨hd, rfl⟩ := (decodeCsr_reserved_iff d r data).1 h
    exact hd
  cases c with
  | csr d data => exact hcsr d data h
  | bus write addr data =>
    rw [decode] at h
    split at h
    · exact hcsr _ data h
    · cases h
  | _ => cases h

/-- A refusal of a step: a reserved code, or an unsettled tick under REFUSE. -/
def refusalAllowed (cfg : Config) (r : Refusal) : Prop :=
  (∃ c : BitVec 4, r = .reservedAccess c ∧ (c.toNat ≤ 4 ∨ 13 ≤ c.toNat)) ∨
  (∃ u, r = .unsettledTick u ∧ cfg.unsettledPolicy = .refuse)

theorem exec_outcome (s : State) (i : Instr) :
    (∃ t, exec i s = .next t) ∨ ∃ r, exec i s = .refused r ∧ refusalAllowed s.cfg r := by
  obtain h | ⟨u, hp, h⟩ := exec_cases s i
  · exact .inl h
  · exact .inr ⟨_, h, .inr ⟨u, rfl, hp⟩⟩

/-- A step has a next state or an allowed refusal (R200). -/
theorem step_outcome (s : State) : (∃ t, step s = .next t) ∨ ∃ r, step s = .refused r ∧ refusalAllowed s.cfg r := by
  obtain ⟨hnil, hidle, hreset⟩ := stepTicksWhenTheHostIsIdle
  cases hev : s.events with
  | nil => exact hnil s hev ▸ exec_outcome s _
  | cons e rest =>
    cases e with
    | idle => exact hidle s rest hev ▸ exec_outcome { s with events := rest } _
    | reset => exact .inl ⟨_, hreset s rest hev⟩
    | word c =>
      cases hd : decode s.cfg c with
      | instr i => exact step_of_instr hev hd ▸ exec_outcome { s with events := rest } _
      | reserved r =>
        exact .inr ⟨_, by rw [step, fetch_word s c rest hev, hd, fetchDecoded], .inl ⟨r, rfl, reserved_of_decode hd⟩⟩
      | unmapped addr => exact .inl ⟨_, by rw [step, fetch_word s c rest hev, hd, fetchDecoded]⟩

/-- Settles O47, by the outcomes of an instruction and of a step. -/
theorem everyInstructionHasANextState : Obligations.EveryInstructionHasANextState := by
  refine ⟨fun s i hp => ?_, fun s => ?_, fun s r h => ?_⟩
  · refine (exec_cases s i).resolve_right ?_
    rintro ⟨u, hp', -⟩
    rw [hp] at hp'
    cases hp'
  · exact (step_outcome s).imp_right fun ⟨r, hr, _⟩ => ⟨r, hr⟩
  · obtain ⟨t, ht⟩ | ⟨r', hr', hallowed⟩ := step_outcome s
    · rw [h] at ht
      cases ht
    · rw [h] at hr'
      cases hr'
      exact hallowed

/-! ### Reset -/

theorem xAt_initial (cfg : Config) (events : List Event) (k : Slot) : xAt (State.initial cfg events) k = 0 := by
  simp [xAt, State.initial]

theorem yAt_initial (cfg : Config) (events : List Event) (k : Slot) : yAt (State.initial cfg events) k = 0 := by
  simp [yAt, State.initial]

/-- Settles O45. -/
theorem resetLeavesEverythingZero : Obligations.ResetLeavesEverythingZero :=
  ⟨fun k => ⟨xAt_initial _ _ k, yAt_initial _ _ k⟩, rfl, rfl, rfl, rfl, rfl, rfl, rfl, rfl, rfl, rfl, rfl, rfl, rfl,
    rfl, rfl, rfl, rfl⟩

end Sys2Proof.Machine
end

section
/-! Selector rows run alone (log entry 4), and the first ticks after a reset (R223). -/

namespace Sys2Proof.Machine

/-! ### Rows alone -/

theorem fireRow_of_selected {selected : Bool} (h : selected = true) (w : State → State) (s : State) :
    fireRow selected w s = .next (w s) := by rw [h, fireRow_true]

theorem fireRow_of_unselected {selected : Bool} (h : selected = false) (w : State → State) (s : State) :
    fireRow selected w s = .next s := by rw [h, fireRow_false]

/-- Settles O18: the selected row's store, and its writes beside the arrays. -/
theorem acceptRowsStoreThePair : Obligations.AcceptRowsStoreThePair := by
  intro s hbusy
  refine ⟨fun hcur => ?_, fun hcur => ?_⟩
  · have hsel : (!busy s && !cursorLast s) = true := by simp [hbusy, (cursorLast_false_iff s).2 hcur]
    exact ⟨_, fireRow_of_selected hsel _ s, fun k => xAt_storePair _ k s.xkVal s.ykVal s,
      fun k => yAt_storePair _ k s.xkVal s.ykVal s, cursor_succ_toNat hcur, rfl⟩
  · have hsel : (!busy s && cursorLast s) = true := by simp [hbusy, (cursorLast_iff s).2 hcur]
    exact ⟨_, fireRow_of_selected hsel _ s, fun k => xAt_storePair _ k s.xkVal s.ykVal s,
      fun k => yAt_storePair _ k s.xkVal s.ykVal s,
      getFlag_setFlag_same s.full s.awb true, getFlag_setFlag_other s.full _ _ true (otherBank_ne s.awb), rfl⟩

/-- Settles O19: selected or not, these rows write nothing. -/
theorem rowsWithoutWritesChangeNothing : Obligations.RowsWithoutWritesChangeNothing := by
  intro s bz c15
  have hkeep (selected : Bool) : fireRow selected id s = .next s := by cases selected <;> rfl
  exact ⟨hkeep (busy s), rfl, hkeep (!s.startSum && !s.flushPending)⟩

/-- Settles O20, by each row's selection. -/
theorem drainRowsMoveTheBankFlags : Obligations.DrainRowsMoveTheBankFlags := fun s =>
  ⟨fun hf hp => fireRow_of_selected ((drainSignal_iff s).2 ⟨hf, hp⟩) _ s,
    fun _ hf => fireRow_of_selected (by simp [hf]) _ s, fun hf hp => fireRow_of_selected (by simp [hf, hp]) _ s⟩

/-- Settles O21, by ACC's writes. -/
theorem accRowFoldsTheDrainBank : Obligations.AccRowFoldsTheDrainBank := by
  intro s de fp dl hs
  refine ⟨_, fireRow_of_selected hs _ s, rfl, fun b i => ?_, rfl⟩
  exact (yAt_zeroBankY (drainBank s) s (slot b i)).trans (by simp only [slot_in_bank_iff])

/-- Settles O22, by each row's selection. -/
theorem flushRowsRunTheProtocol : Obligations.FlushRowsRunTheProtocol := fun s hs =>
  ⟨fun _ _ => fireRow_of_selected (by simp [hs]) _ s, fun _ hp => fireRow_of_selected (by simp [hs, hp]) _ s,
    fun hp => fireRow_of_selected (by simp [hs, hp]) _ s⟩

/-- Settles O23, by each row's selection. -/
theorem unselectedRowsWriteNothing : Obligations.UnselectedRowsWriteNothing := by
  intro s
  refine ⟨fun h => fireRow_of_unselected ?_ _ s, fun h => fireRow_of_unselected ?_ _ s,
    fun h => fireRow_of_unselected h _ s, fun _ h => fireRow_of_unselected (by simp [h]) _ s,
    fun h => fireRow_of_unselected ?_ _ s, fun _ _ _ h => fireRow_of_unselected h _ s,
    fun _ _ h => fireRow_of_unselected (by simp [h]) _ s, fun _ h => fireRow_of_unselected ?_ _ s,
    fun h => fireRow_of_unselected ?_ _ s⟩
  · obtain h | h := h
    · simp [h]
    · simp [(cursorLast_iff s).2 h]
  · obtain h | h := h
    · simp [h]
    · simp [(cursorLast_false_iff s).2 h]
  · obtain h | h := h <;> simp [h]
  · obtain h | h := h <;> simp [h]
  · obtain h | h := h <;> simp [h]

/-! ### The first ticks after a reset -/

/-- A bank without a sample y sums to 0. -/
theorem bankSum_of_yAt_zero {s : State} {b : Bank} (e : Exponent) (h : ∀ i, yAt s (slot b i) = 0) :
    bankSum s b e = 0 := by
  rw [bankSum, tree_eq_sum, funext fun i => lane_of_yAt_zero s b (BitVec.ofNat 4 i) e (h _)]
  rfl

/-- Under REFERENCE every REGS word runs. -/
theorem exec_regs_reference {s : State} (h : s.cfg.unsettledPolicy = .reference) (lv : RegsIn) :
    exec (.regs lv) s = .next (pulseWrites s lv (tickStep s (pulseBundle s lv))) :=
  exec_regs_of_runs (.inl h)

/-- After a reset the accept pulse stores. -/
theorem acceptSignal_initial (cfg : Config) (events : List Event) (inp : TickIn) :
    acceptSignal (State.initial cfg events) inp = inp.enRe := by
  simp [acceptSignal, busy, State.initial]

theorem drainSignal_initial (cfg : Config) (events : List Event) : drainSignal (State.initial cfg events) = false := rfl

/-- An accept pulse in the first tick after a reset stores its pair in bank 0, slot 0. -/
theorem accept_from_initial {cfg : Config} {events : List Event} {inp : TickIn} (hen : inp.enRe = true) :
    xAt (tickStep (State.initial cfg events) inp) 0 = inp.xk ∧
    yAt (tickStep (State.initial cfg events) inp) 0 = inp.yk ∧
    (tickStep (State.initial cfg events) inp).writeCursor = 1 := by
  have hacc : acceptSignal (State.initial cfg events) inp = true := (acceptSignal_initial cfg events inp).trans hen
  have hslot : (0 : Slot) = slot (State.initial cfg events).awb (State.initial cfg events).writeCursor := rfl
  have hf := isFlushDoneTick_of_not_pending (s := State.initial cfg events) (inp := inp) rfl
  refine ⟨by rw [xAt_tickStep, if_pos ⟨hacc, hslot⟩], by rw [hslot, yAt_tickStep, if_pos ⟨hacc, rfl⟩], ?_⟩
  rw [tickStep_writeCursor, hf, hacc]
  rfl

/-- A done pulse alone, in the first tick after a reset, starts a flush over an empty bank. -/
theorem flush_from_initial {cfg : Config} {events : List Event} {inp : TickIn} (hen : inp.enRe = false)
    (hdone : inp.doneRe = true) :
    (tickStep (State.initial cfg events) inp).startSum = false ∧
    (tickStep (State.initial cfg events) inp).flushPending = true ∧
    (tickStep (State.initial cfg events) inp).accumulator = 0 ∧
    ∀ b i, yAt (tickStep (State.initial cfg events) inp) (slot b i) = 0 := by
  have hss : (State.initial cfg events).startSum = false := rfl
  have hf := isFlushDoneTick_of_doneRe (s := State.initial cfg events) hdone
  refine ⟨by simp [drainSignal_initial], by simp [tickStep_flushPending, hss, hdone], ?_, fun b i => ?_⟩
  · rw [tickStep_accumulator, hss, hf]
    rfl
  · simp [yAt_tickStep, acceptSignal_initial, hen, hss, yAt_initial]

/-- A tick that flushes an empty core publishes 0. -/
theorem flushDone_of_empty {s : State} {inp : TickIn} (hf : isFlushDoneTick s inp = true) (hacc : s.accumulator = 0)
    (hy : ∀ b i, yAt s (slot b i) = 0) : (tickStep s inp).result = 0 ∧ (tickStep s inp).valid = true := by
  rw [tickStep_result, tickStep_valid, if_pos hf, if_pos hf, hacc, bankSum_of_yAt_zero inp.exp (hy _)]
  exact ⟨rfl, rfl⟩

/-- Settles O46: the edge history is 0 after reset, so the first levels of 1 pulse, and the second tick has no done
pulse. -/
theorem levelsHighAtResetPulse : Obligations.LevelsHighAtResetPulse := by
  intro cfg events lv lv' hsrc hpol
  obtain ⟨henRe, hdoneRe⟩ := pulses_risingEdge (s := State.initial cfg events) hsrc lv
  have ht := exec_regs_reference (s := State.initial cfg events) hpol lv
  obtain ⟨htsrc, -, htdone⟩ := regs_stores_levels (s := State.initial cfg events) hsrc ht
  refine ⟨_, _, ht, exec_regs_reference (by simpa [State.initial] using hpol) lv', fun hen => ?_, fun hen hdone => ?_⟩
  · rw [xAt_pulseWrites, yAt_pulseWrites, pulseWrites_writeCursor]
    exact accept_from_initial (by rw [henRe, hen]; rfl)
  · obtain ⟨hss, hpend, hacc, hy⟩ := flush_from_initial (cfg := cfg) (events := events)
      (inp := pulseBundle (State.initial cfg events) lv) (by simp [henRe, hen]) (by rw [hdoneRe, hdone]; rfl)
    have hquiet := (pulses_risingEdge htsrc lv').2
    rw [htdone, hdone, Bool.not_true, Bool.and_false] at hquiet
    rw [pulseWrites_result, pulseWrites_valid]
    refine ⟨by simpa using hpend, flushDone_of_empty ?_ (by simpa using hacc) (by simpa using hy)⟩
    exact (isFlushDoneTick_iff _ _).2 ⟨by simpa using hss, hquiet, by simpa using hpend⟩

end Sys2Proof.Machine
end

section
/-! The four phases between ticks that meet the premises (70_reset_and_hazards.md sections 3 and 4): what each phase
says, and the phase each tick leads to. -/

namespace Sys2Proof.Machine

/-! ### What a phase says -/

/-- Where the active bank is free, `busy` is 0. -/
theorem busy_of_awb_free {s : State} (h : getFlag s.processing s.awb = false) : busy s = false := by
  unfold busy
  cases hb : s.awb <;> simp_all [getFlag]

theorem awb_free_of_steady {s : State} (h : steadyPhase s) : getFlag s.processing s.awb = false := by
  obtain ⟨-, hp, -⟩ | ⟨-, -, hp, -⟩ | ⟨-, -, hp, -⟩ | ⟨-, -, hp, -⟩ := h
  · rw [hp, getFlag_none]
  · rw [hp, getFlag_none]
  · exact hp
  · exact hp

theorem busy_of_steady {s : State} (h : steadyPhase s) : busy s = false := busy_of_awb_free (awb_free_of_steady h)

theorem acceptSignal_of_steady {s : State} (h : steadyPhase s) (inp : TickIn) : acceptSignal s inp = inp.enRe := by
  simp [acceptSignal, busy_of_steady h]

/-- R34: in a phase no two of the flags that exclude each other are set. -/
theorem flagsExclusive_of_steady {s : State} (h : steadyPhase s) : flagsExclusive s := by
  refine ⟨by simpa [busy] using busy_of_steady h, fun b => ?_⟩
  obtain ⟨hf, -⟩ | ⟨-, -, hp, -⟩ | ⟨hf, -⟩ | ⟨hf, -⟩ := h
  · simp [hf]
  · simp [hp]
  · simp [hf]
  · simp [hf]

theorem drainSignal_of_no_full {s : State} (h : s.full = ⟨false, false⟩) : drainSignal s = false := by
  simp [drainSignal, h]

theorem drainSignal_of_filled {s : State} (h : filledPhase s) : drainSignal s = true := by
  obtain ⟨hfull, -, hp, -⟩ := h
  exact (drainSignal_iff s).2 ⟨hfull, by simp [hp]⟩

/-- A steady core that drains is in the filled phase, one about to fold in the draining phase, and one with a flush
pending in the flushing phase. -/
theorem filled_of_drainSignal {s : State} (h : steadyPhase s) (hd : drainSignal s = true) : filledPhase s := by
  obtain ⟨hf, -⟩ | h | ⟨hf, -⟩ | ⟨hf, -⟩ := h
  · simp [drainSignal_of_no_full hf] at hd
  · exact h
  · simp [drainSignal_of_no_full hf] at hd
  · simp [drainSignal_of_no_full hf] at hd

theorem draining_of_startSum {s : State} (h : steadyPhase s) (hs : s.startSum = true) : drainingPhase s := by
  obtain ⟨-, -, hs', -⟩ | ⟨-, -, -, hs', -⟩ | h | ⟨-, -, -, hs', -⟩ := h
  · simp [hs'] at hs
  · simp [hs'] at hs
  · exact h
  · simp [hs'] at hs

theorem flushing_of_flushPending {s : State} (h : steadyPhase s) (hp : s.flushPending = true) : flushingPhase s := by
  obtain ⟨-, -, -, hp'⟩ | ⟨-, -, -, -, hp', -⟩ | ⟨-, -, -, -, hp', -⟩ | h := h
  · simp [hp'] at hp
  · simp [hp'] at hp
  · simp [hp'] at hp
  · exact h

/-- A steady core with none of the three is idle. -/
theorem idle_of_steady {s : State} (h : steadyPhase s) (hd : drainSignal s = false) (hs : s.startSum = false)
    (hp : s.flushPending = false) : idlePhase s := by
  obtain h | h | ⟨-, -, -, hs', -⟩ | ⟨-, -, -, -, hp'⟩ := h
  · exact h
  · simp [drainSignal_of_filled h] at hd
  · simp [hs'] at hs
  · simp [hp'] at hp

/-! ### Where each phase leads -/

/-- R161: a done pulse in the idle phase starts the flush. -/
theorem flushing_of_idle {s : State} {inp : TickIn} (h : idlePhase s) (hdone : inp.doneRe = true)
    (hacc : acceptSignal s inp = false) : flushingPhase (tickStep s inp) := by
  obtain ⟨hf, hp, hs, -⟩ := h
  have hdr := drainSignal_of_no_full hf
  have hfd := isFlushDoneTick_of_doneRe (s := s) hdone
  have hawb : (tickStep s inp).awb = drainBank s := by simp [tickStep_awb, hs, hdone, otherBank_awb]
  have hdb : drainBank (tickStep s inp) = s.awb := by rw [drainBank, hawb, otherBank_drainBank]
  refine ⟨by rw [full_tickStep_of_no_drain hacc hdr, hf], ?_, ?_, by simp [hdr],
    by simp [tickStep_flushPending, hs, hdone]⟩
  · rw [hdb, getFlag_processing_tickStep, tickStep_cfg]
    simp [hfd, hdr, hs, hdone, hp]
  · rw [hawb, getFlag_processing_tickStep]
    simp [hfd, hdr, hs, hp, drainBank_ne]

/-- R122: the 16th pair, in the idle phase, fills the bank. -/
theorem filled_of_idle {s : State} {inp : TickIn} (h : idlePhase s) (hdone : inp.doneRe = false)
    (hacc : acceptSignal s inp = true) (hcur : s.writeCursor = 15) :
    filledPhase (tickStep s inp) ∧ drainBank (tickStep s inp) = s.awb := by
  obtain ⟨hf, hp, hs, hfp⟩ := h
  have hdr := drainSignal_of_no_full hf
  have hfd := isFlushDoneTick_of_not_pending (inp := inp) hfp
  have hawb : (tickStep s inp).awb = drainBank s := by simp [tickStep_awb, hacc, hcur, otherBank_awb]
  have hdb : drainBank (tickStep s inp) = s.awb := by rw [drainBank, hawb, otherBank_drainBank]
  refine ⟨⟨?_, ?_, ?_, by simp [hdr], by simp [tickStep_flushPending, hdone, hfd, hfp],
    by simp [tickStep_writeCursor, hfd, hacc, hcur]⟩, hdb⟩
  · rw [hdb, getFlag_full_awb_tickStep, if_pos ⟨hacc, hcur⟩]
  · rw [hawb, getFlag_full_drainBank_tickStep]
    simp [hdr, hf]
  · simp [tickStep_processing, hs, hdone, hfd, hdr, hp]

/-- Any other tick without a done pulse leaves an idle core idle. -/
theorem idle_of_idle {s : State} {inp : TickIn} (h : idlePhase s) (hdone : inp.doneRe = false)
    (hlast : ¬(acceptSignal s inp = true ∧ s.writeCursor = 15)) :
    idlePhase (tickStep s inp) ∧ (tickStep s inp).awb = s.awb := by
  obtain ⟨hf, hp, hs, hfp⟩ := h
  have hdr := drainSignal_of_no_full hf
  have hfd := isFlushDoneTick_of_not_pending (inp := inp) hfp
  refine ⟨⟨?_, by simp [tickStep_processing, hs, hdone, hfd, hdr, hp], by simp [hdr],
    by simp [tickStep_flushPending, hdone, hfd, hfp]⟩, ?_⟩
  · simp only [tickStep_full, if_neg hlast, hdr, hf]
    rfl
  · rw [tickStep_awb, if_neg (by simpa [hdone] using hlast)]

/-- R124: the tick after a bank filled takes it. -/
theorem draining_of_filled {s : State} {inp : TickIn} (h : filledPhase s) (hdone : inp.doneRe = false) :
    drainingPhase (tickStep s inp) ∧ (tickStep s inp).awb = s.awb := by
  have hdr := drainSignal_of_filled h
  obtain ⟨-, hfree, hp, hs, hfp, hcur⟩ := h
  have hfd := isFlushDoneTick_of_not_pending (inp := inp) hfp
  have hawb : (tickStep s inp).awb = s.awb := by simp [tickStep_awb, hdone, hcur]
  have hdb : drainBank (tickStep s inp) = drainBank s := by rw [drainBank, hawb, drainBank]
  refine ⟨⟨bankFlags_ext _ _ fun b => ?_, ?_, ?_, by simp [hdr], by simp [tickStep_flushPending, hdone, hfd, hfp], ?_⟩,
    hawb⟩
  · obtain rfl | rfl := eq_or_eq_otherBank b (drainBank s)
    · simp [getFlag_full_drainBank_tickStep, hdr]
    · simp [getFlag_full_awb_tickStep, hcur, hfree]
  · simp [hdb, getFlag_processing_tickStep, hfd, hdr]
  · simp [hawb, getFlag_processing_tickStep, hfd, hs, hdone, hp, awb_ne_drainBank]
  · rw [tickStep_writeCursor, hfd, hcur]
    cases acceptSignal s inp <;> decide

/-- R160: the tick after a DRAIN folds the bank and releases it. -/
theorem idle_of_draining {s : State} (inp : TickIn) (h : drainingPhase s) :
    idlePhase (tickStep s inp) ∧ (tickStep s inp).awb = s.awb := by
  obtain ⟨hf, hp, hfree, hs, hfp, hcur⟩ := h
  have hdr := drainSignal_of_no_full hf
  have hfd := isFlushDoneTick_of_startSum (inp := inp) hs
  have hlast : s.writeCursor ≠ 15 := by
    rintro h
    rw [h] at hcur
    exact absurd hcur (by decide)
  refine ⟨⟨?_, bankFlags_ext _ _ fun b => ?_, by simp [hdr], by simp [tickStep_flushPending, hs, hfd, hfp]⟩, ?_⟩
  · simp only [tickStep_full, hlast, hdr, hf]
    simp
  · obtain rfl | rfl := eq_or_eq_otherBank b (drainBank s)
    · simp [getFlag_processing_tickStep, hfd, hdr, hs]
    · simp [getFlag_processing_tickStep, hfd, hdr, hs, hfree, awb_ne_drainBank]
  · rw [tickStep_awb, if_neg (by simp only [hlast, hs]; simp)]

/-- R162, R166: the tick after a FLUSH_START publishes, and a new stream may start. -/
theorem streamStart_of_flushing {s : State} {inp : TickIn} (h : flushingPhase s) (hdone : inp.doneRe = false)
    (hacc : acceptSignal s inp = false) : isFlushDoneTick s inp = true ∧ streamStart (tickStep s inp) := by
  obtain ⟨hf, -, -, hs, hfp⟩ := h
  have hdr := drainSignal_of_no_full hf
  have hfd : isFlushDoneTick s inp = true := (isFlushDoneTick_iff s inp).2 ⟨hs, hdone, hfp⟩
  exact ⟨hfd, ⟨by rw [full_tickStep_of_no_drain hacc hdr, hf], by simp [tickStep_processing, hfd], by simp [hdr],
    by simp [tickStep_flushPending, hdone, hfd]⟩, by simp [tickStep_accumulator, hs, hfd],
    by simp [tickStep_writeCursor, hfd]⟩

/-! ### The premises on one tick -/

theorem doneRe_of_filled {s : State} {inp : TickIn} (h : filledPhase s) (hp : hostPremises s inp) :
    inp.doneRe = false := by
  obtain ⟨-, hdd, -⟩ := hp
  by_contra hd
  exact hdd ⟨by simpa using hd, drainSignal_of_filled h⟩

theorem quiet_of_flushing {s : State} {inp : TickIn} (h : flushingPhase s) (hp : hostPremises s inp) :
    inp.doneRe = false ∧ acceptSignal s inp = false := by
  obtain ⟨-, -, -, -, hacc, hdone⟩ := hp
  obtain ⟨-, -, -, -, hfp⟩ := h
  constructor
  · by_contra hd
    exact hdone ⟨by simpa using hd, hfp⟩
  · by_contra ha
    exact hacc ⟨hfp, by simpa using ha⟩

theorem acceptSignal_of_doneRe {s : State} {inp : TickIn} (hp : hostPremises s inp) (hd : inp.doneRe = true) :
    acceptSignal s inp = false := by
  obtain ⟨-, -, -, hw, -⟩ := hp
  by_contra ha
  exact hw ⟨hd, by simpa using ha⟩

/-- A done pulse that meets the premises finds a steady core idle. -/
theorem idle_of_doneRe {s : State} {inp : TickIn} (h : steadyPhase s) (hp : hostPremises s inp)
    (hd : inp.doneRe = true) : idlePhase s := by
  obtain ⟨-, hdd, hsd, -, -, hfd⟩ := hp
  refine idle_of_steady h ?_ ?_ ?_
  · by_contra hc
    exact hdd ⟨hd, by simpa using hc⟩
  · by_contra hc
    exact hsd ⟨hd, by simpa using hc⟩
  · by_contra hc
    exact hfd ⟨hd, by simpa using hc⟩

/-- A tick that meets the premises leads from a phase to a phase (R236). -/
theorem steadyPhase_tickStep {s : State} {inp : TickIn} (h : steadyPhase s) (hp : hostPremises s inp) :
    steadyPhase (tickStep s inp) := by
  obtain h | h | h | h := h
  · cases hd : inp.doneRe
    · by_cases hlast : acceptSignal s inp = true ∧ s.writeCursor = 15
      · exact .inr (.inl (filled_of_idle h hd hlast.1 hlast.2).1)
      · exact .inl (idle_of_idle h hd hlast).1
    · exact .inr (.inr (.inr (flushing_of_idle h hd (acceptSignal_of_doneRe hp hd))))
  · exact .inr (.inr (.inl (draining_of_filled h (doneRe_of_filled h hp)).1))
  · exact .inl (idle_of_draining inp h).1
  · obtain ⟨hd, ha⟩ := quiet_of_flushing h hp
    exact .inl (streamStart_of_flushing h hd ha).2.1

/-! R197's table. -/

theorem isUnsettled_u1_iff (s : State) (inp : TickIn) :
    isUnsettled s inp .u1 = true ↔ inp.doneRe = true ∧ s.startSum = false ∧ drainSignal s = true := by
  simp [isUnsettled, and_assoc]

theorem isUnsettled_u2_iff (s : State) (inp : TickIn) :
    isUnsettled s inp .u2 = true ↔ inp.doneRe = true ∧ s.startSum = true := by
  simp [isUnsettled]

theorem isUnsettled_u3_iff (s : State) (inp : TickIn) :
    isUnsettled s inp .u3 = true ↔ inp.doneRe = true ∧ s.startSum = false ∧ acceptSignal s inp = true := by
  simp [isUnsettled, and_assoc]

theorem isUnsettled_u4_iff (s : State) (inp : TickIn) : isUnsettled s inp .u4 = true ↔
    s.flushPending = true ∧ s.startSum = false ∧ inp.doneRe = false ∧ acceptSignal s inp = true := by
  simp [isUnsettled, and_assoc]

theorem isUnsettled_u5_iff (s : State) (inp : TickIn) :
    isUnsettled s inp .u5 = true ↔ inp.doneRe = true ∧ s.startSum = false ∧ s.flushPending = true := by
  simp [isUnsettled, and_assoc]

/-- A tick that meets the premises is not unsettled (R197). -/
theorem settled_of_hostPremises {s : State} {inp : TickIn} (hp : hostPremises s inp) (u : Unsettled) :
    isUnsettled s inp u = false := by
  obtain ⟨-, hdd, hsd, hda, hpa, hdp⟩ := hp
  rw [← Bool.not_eq_true]
  cases u with
  | u1 => exact fun h => have ⟨hd, _, hdr⟩ := (isUnsettled_u1_iff s inp).1 h; hdd ⟨hd, hdr⟩
  | u2 => exact fun h => hsd ((isUnsettled_u2_iff s inp).1 h)
  | u3 => exact fun h => have ⟨hd, _, ha⟩ := (isUnsettled_u3_iff s inp).1 h; hda ⟨hd, ha⟩
  | u4 => exact fun h => have ⟨hfp, _, _, ha⟩ := (isUnsettled_u4_iff s inp).1 h; hpa ⟨hfp, ha⟩
  | u5 => exact fun h => have ⟨hd, _, hfp⟩ := (isUnsettled_u5_iff s inp).1 h; hdp ⟨hd, hfp⟩

/-- From a phase a tick that is not unsettled meets the premises. -/
theorem hostPremises_of_settled {s : State} {inp : TickIn} (h : steadyPhase s)
    (hu : ∀ u, isUnsettled s inp u = false) : hostPremises s inp := by
  have hno (u : Unsettled) : ¬isUnsettled s inp u = true := by simp [hu u]
  have hsd : pSsDone s inp := fun hc => hno .u2 ((isUnsettled_u2_iff s inp).2 hc)
  have hss (hd : inp.doneRe = true) : s.startSum = false := by simpa [pSsDone, hd] using hsd
  have hdp : ¬(inp.doneRe = true ∧ s.flushPending = true) := fun ⟨hd, hfp⟩ =>
    hno .u5 ((isUnsettled_u5_iff s inp).2 ⟨hd, hss hd, hfp⟩)
  refine ⟨fun _ => busy_of_steady h, fun ⟨hd, hdr⟩ => hno .u1 ((isUnsettled_u1_iff s inp).2 ⟨hd, hss hd, hdr⟩), hsd,
    fun ⟨hd, ha⟩ => hno .u3 ((isUnsettled_u3_iff s inp).2 ⟨hd, hss hd, ha⟩), fun ⟨hfp, ha⟩ => ?_, hdp⟩
  obtain ⟨-, -, -, hs, -⟩ := flushing_of_flushPending h hfp
  have hd : inp.doneRe = false := by simpa [hfp] using hdp
  exact hno .u4 ((isUnsettled_u4_iff s inp).2 ⟨hfp, hs, hd, ha⟩)

end Sys2Proof.Machine
end

section
/-! The invariant that the core stays in its phases: under REFUSE over every step, on runs that meet the premises, and
under R239's quiet windows; and what the phases say of a filled bank and of a flush (R236, R237, R166). -/

namespace Sys2Proof.Machine

/-! ### Under REFUSE -/

theorem sameCore_pulseWrites (s : State) (lv : RegsIn) (n : State) : sameCore n (pulseWrites s lv n) := by
  simp [sameCore]

/-- A phase is one of the core's state elements and the parameters. -/
theorem steadyPhase_of_same {s t : State} (hcfg : t.cfg = s.cfg) (hsame : sameCore s t) (h : steadyPhase s) :
    steadyPhase t := by
  obtain ⟨-, -, hcur, hawb, hf, hp, hs, hfp, -⟩ := hsame
  simpa only [steadyPhase, idlePhase, filledPhase, drainingPhase, flushingPhase, drainBank, hcur, hawb, hf, hp, hs, hfp,
    hcfg] using h

/-- A tick with a next state under REFUSE is not unsettled (R197). -/
theorem settled_of_runTick_next {s n t : State} {inp : TickIn} (hpol : s.cfg.unsettledPolicy = .refuse)
    (h : runTick s inp n = .next t) (u : Unsettled) : isUnsettled s inp u = false := by
  refine (unsettledCase_none s inp).1 ?_ u
  cases hu : unsettledCase s inp with
  | none => rfl
  | some v => simp [runTick, hpol, hu] at h

/-- The instructions of the formats ACPT3, DRN2 and CTRL4. -/
def isSelectorRow : Instr → Bool
  | .noWrite _ _ | .dropWrite _ | .acceptWrite | .acceptLast | .drain | .noDrain _ | .noDrainHeld | .acc _ _ _
  | .flushStart _ _ | .flushDone _ | .validClear | .validHold => true
  | _ => false

theorem isSelectorRow_onBus (cfg : Config) (i : Instr) : isSelectorRow (onBus cfg i) = isSelectorRow i := by
  cases i <;> rfl

theorem isSelectorRow_of_decodeCsr {c : BitVec 4} {data : Nat} {i : Instr} (h : decodeCsr c data = .instr i) :
    isSelectorRow i = false := by
  by_cases hc : c.toNat ≤ 4 ∨ 13 ≤ c.toNat
  · simp [decodeCsr_of_reserved data hc] at h
  · obtain rfl | rfl | rfl | rfl | rfl | rfl | rfl | rfl := csrCode_eq_of_access hc <;> (cases h; rfl)

/-- An event that is not a selector row run alone decodes to no such row. -/
theorem isSelectorRow_of_hostEvent {cfg : Config} {c : Code} {i : Instr} (hc : isHostEvent (.word c) = true)
    (h : decode cfg c = .instr i) : isSelectorRow i = false := by
  cases c with
  | acpt3 | drn2 | ctrl4 => cases hc
  | exp3 e base =>
    injection h with h
    rw [← h]
    cases decodeExp3 e <;> rfl
  | comb f =>
    injection h with h
    rw [← h]
    cases f <;> rfl
  | tick | regs =>
    injection h with h
    rw [← h]
    rfl
  | csr d data => exact isSelectorRow_of_decodeCsr h
  | bus write addr data =>
    rw [decode] at h
    split at h
    · exact isSelectorRow_of_decodeCsr h
    · cases h

/-- Under REFUSE every instruction but a selector row leads from a phase to a phase. -/
theorem steadyPhase_of_exec {s t : State} {i : Instr} (hpol : s.cfg.unsettledPolicy = .refuse)
    (hi : isSelectorRow i = false) (hs : steadyPhase s) (h : exec i s = .next t) : steadyPhase t := by
  have htick {inp : TickIn} {n : State} (hrun : runTick s inp n = .next t) : steadyPhase (tickStep s inp) :=
    steadyPhase_tickStep hs (hostPremises_of_settled hs (settled_of_runTick_next hpol hrun))
  cases reaches_of_exec h with
  | tick inp => exact htick h
  | regs lv => exact steadyPhase_of_same (pulseWrites_cfg _ _ _) (sameCore_pulseWrites _ _ _) (htick h)
  | pulse => exact steadyPhase_of_same (pulseWrites_cfg s (regLevels s) s) (sameCore_pulseWrites s (regLevels s) s) hs
  | acceptWrite | acceptLast | drain | noDrain | noDrainHeld | acc | flushStart | flushDone | validClear => cases hi
  | unselected => exact hs
  | value | data | wrXk | wrYk | wrExp | wrEnable | wrDone => exact hs

/-- The phase and the events still to come of a state that an instruction leaves. -/
theorem refusingSteady_of_exec {s t : State} {i : Instr} (h : refusingSteady s) (hi : isSelectorRow i = false)
    (hx : exec i s = .next t) : refusingSteady t := by
  obtain ⟨hpol, hev, hs⟩ := h
  have hr := reaches_of_exec hx
  exact ⟨by rw [hr.cfg_eq, hpol], by rw [hr.events_eq, hev], steadyPhase_of_exec hpol hi hs hx⟩

theorem refusingSteady_of_step {s t : State} (h : refusingSteady s) (hstep : step s = .next t) : refusingSteady t := by
  obtain ⟨hpol, hev, hs⟩ := h
  obtain ⟨hnil, hx⟩ | ⟨rest, hrest, hx⟩ | ⟨c, rest, i, hrest, hd, hx⟩ | ⟨c, rest, addr, hrest, -, rfl⟩ |
    ⟨rest, hrest, rfl⟩ := step_next_cases s t hstep
  · exact refusingSteady_of_exec ⟨hpol, hev, hs⟩ rfl hx
  · rw [hrest, List.all_cons, Bool.and_eq_true] at hev
    exact refusingSteady_of_exec (s := { s with events := rest }) ⟨hpol, hev.2, hs⟩ rfl hx
  · rw [hrest, List.all_cons, Bool.and_eq_true] at hev
    refine refusingSteady_of_exec (s := { s with events := rest }) ⟨hpol, hev.2, hs⟩ ?_ hx
    rw [isSelectorRow_onBus, isSelectorRow_of_hostEvent hev.1 hd]
  · rw [hrest, List.all_cons, Bool.and_eq_true] at hev
    exact ⟨hpol, hev.2, hs⟩
  · rw [hrest, List.all_cons, Bool.and_eq_true] at hev
    exact refusingSteady_initial hpol hev.2

/-- Settles O54, by the invariant and what a phase says of the flags. -/
theorem refusingStepKeepsTheSteadyPhase : Obligations.RefusingStepKeepsTheSteadyPhase := by
  intro s t hs h
  have ht := refusingSteady_of_step hs h
  have ⟨_, _, hsteady⟩ := ht
  exact ⟨ht, busy_of_steady hsteady, flagsExclusive_of_steady hsteady⟩

/-! ### On runs that meet the premises -/

theorem steadyPhase_runTicks {s : State} {ins : List TickIn} (h : steadyPhase s) (ht : timingAlong s ins) :
    steadyPhase (runTicks s ins) := by
  induction ins generalizing s with
  | nil => exact h
  | cons inp rest ih =>
    obtain ⟨hp, hrest⟩ := ht
    exact ih (steadyPhase_tickStep h hp) hrest

/-- A tick makes a bank full only where it accepts the 16th pair of that bank. -/
theorem accepted_of_becomes_full {s : State} {inp : TickIn} {b : Bank} (h : getFlag s.full b = false)
    (h' : getFlag (tickStep s inp).full b = true) :
    b = s.awb ∧ s.writeCursor = 15 ∧ acceptSignal s inp = true := by
  rw [getFlag_full_tickStep] at h'
  split_ifs at h' with hd hl
  · obtain ⟨hacc, hcur, hb⟩ := hl
    exact ⟨hb, hcur, hacc⟩
  · simp [h] at h'

/-- Settles O55, by the phase at the end of the run. -/
theorem premisesKeepBusyLow : Obligations.PremisesKeepBusyLow := by
  rintro cfg events ins _ ht rfl
  have h := steadyPhase_runTicks (steadyPhase_initial cfg events) ht
  refine ⟨h, busy_of_steady h, flagsExclusive_of_steady h, fun inp hp =>
    ⟨settled_of_hostPremises hp, acceptSignal_of_steady h inp, fun b hb hb' => ?_⟩⟩
  obtain ⟨hawb, hcur, hacc⟩ := accepted_of_becomes_full hb hb'
  exact ⟨hawb, hcur, (acceptSignal_of_steady h inp).symm.trans hacc⟩

/-- A pair accepted into slot 15, on a tick that meets the premises, finds a steady core idle. -/
theorem idle_of_accepts_last {s : State} {inp : TickIn} (h : steadyPhase s) (hp : hostPremises s inp)
    (hacc : acceptSignal s inp = true) (hcur : s.writeCursor = 15) : idlePhase s := by
  obtain h | ⟨-, -, -, -, -, hcur'⟩ | ⟨-, -, -, -, -, hcur'⟩ | h := h
  · exact h
  · rw [hcur] at hcur'
    exact absurd hcur' (by decide)
  · rw [hcur] at hcur'
    exact absurd hcur' (by decide)
  · simp [(quiet_of_flushing h hp).2] at hacc

/-- The accumulator changes by a fold or a flush only. -/
theorem accumulator_tickStep_kept {s : State} {inp : TickIn} (hs : s.startSum = false) (hfp : s.flushPending = false) :
    (tickStep s inp).accumulator = s.accumulator := by
  simp [tickStep_accumulator, hs, isFlushDoneTick_of_not_pending hfp]

/-- Settles O56: idle, then filled, then draining, then folded. -/
theorem filledBankIsFoldedTwoTicksLater : Obligations.FilledBankIsFoldedTwoTicksLater := by
  intro s in0 in1 in2 hsteady hacc hcur hp0 hp1 hp2
  have hidle := idle_of_accepts_last hsteady hp0 hacc hcur
  have hdone0 : in0.doneRe = false := by
    by_contra hd
    simp [acceptSignal_of_doneRe hp0 (by simpa using hd)] at hacc
  obtain ⟨hfilled, hdb1⟩ := filled_of_idle hidle hdone0 hacc hcur
  have hawb1 : (tickStep s in0).awb = otherBank s.awb := by rw [← hdb1, otherBank_drainBank]
  obtain ⟨hdraining, hawb2⟩ := draining_of_filled hfilled (doneRe_of_filled hfilled hp1)
  have hdb2 : drainBank (tickStep (tickStep s in0) in1) = s.awb := by rw [drainBank, hawb2, ← hdb1, drainBank]
  have hfold := (idle_of_draining in2 hdraining).1
  have hkept0 : (tickStep s in0).accumulator = s.accumulator := by
    obtain ⟨-, -, hs, hfp⟩ := hidle
    exact accumulator_tickStep_kept hs hfp
  have hdrain := drainSignal_of_filled hfilled
  obtain ⟨hfull1, hfree1, hproc1, hs1, hfp1, -⟩ := hfilled
  obtain ⟨-, hproc2, -, hs2, -⟩ := hdraining
  obtain ⟨-, hproc3, -⟩ := hfold
  refine ⟨by rwa [hdb1] at hfull1, hdb1, by rwa [hawb1] at hfree1, by simp [hproc1], hdrain, hs2, hdb2,
    by rwa [hdb2] at hproc2, ?_, fun i => ?_, ?_⟩
  · simp only [runTicks]
    rw [tickStep_accumulator, if_pos hs2, accumulator_tickStep_kept hs1 hfp1, hkept0, hdb2]
  · simp only [runTicks]
    rw [yAt_tickStep, if_neg, if_pos ⟨hs2, hdb2.symm⟩]
    rintro ⟨-, hslot⟩
    exact drainBank_ne _ (hdb2.trans ((slot_inj _ _ _ _).1 hslot).1)
  · simp only [runTicks]
    rw [hproc3, getFlag_none]

/-- A bank's sum is of its own entries, at the sentinel of the parameters. -/
theorem bankSum_congr {s t : State} {b : Bank} (e : Exponent) (hcfg : t.cfg = s.cfg)
    (hx : ∀ i, xAt t (slot b i) = xAt s (slot b i)) (hy : ∀ i, yAt t (slot b i) = yAt s (slot b i)) :
    bankSum t b e = bankSum s b e := by
  simp only [bankSum, lane, laneBase, laneY, hx, hy, hcfg]

/-- With no pair accepted and no fold, a tick leaves every bank's sum. -/
theorem bankSum_tickStep_kept {s : State} {inp : TickIn} (b : Bank) (e : Exponent) (hacc : acceptSignal s inp = false)
    (hs : s.startSum = false) : bankSum (tickStep s inp) b e = bankSum s b e :=
  bankSum_congr e (tickStep_cfg s inp) (fun i => by simp [xAt_tickStep, hacc]) fun i => by simp [yAt_tickStep, hacc, hs]

/-- Settles O57: idle, then flushing, then the start of a stream. -/
theorem flushCompletesInTwoTicks : Obligations.FlushCompletesInTwoTicks := by
  intro s in0 in1 hsteady hdone hp0 hp1
  have hidle := idle_of_doneRe hsteady hp0 hdone
  have hacc0 := acceptSignal_of_doneRe hp0 hdone
  have hflushing := flushing_of_idle hidle hdone hacc0
  obtain ⟨hdone1, hacc1⟩ := quiet_of_flushing hflushing hp1
  obtain ⟨hfd, hstart⟩ := streamStart_of_flushing hflushing hdone1 hacc1
  obtain ⟨-, -, hs, hfp⟩ := hidle
  have hdb : drainBank (tickStep s in0) = s.awb := by
    simp [drainBank, tickStep_awb, hs, hdone]
  have hsettled : settled (tickStep (tickStep s in0) in1) := by
    obtain ⟨⟨-, -, hs', hfp'⟩, -⟩ := hstart
    exact ⟨hs', hfp'⟩
  refine ⟨(branch_flushStart_iff s in0).2 ⟨hs, hdone⟩, (branch_flushDone_iff _ in1).2 hfd, ?_, ?_, hstart, hsettled⟩
  · simp only [runTicks]
    rw [tickStep_valid, if_pos hfd]
  · simp only [runTicks]
    rw [tickStep_result, if_pos hfd, accumulator_tickStep_kept hs hfp, hdb,
      bankSum_tickStep_kept s.awb in1.exp hacc0 hs]

/-! ### What a phase says of the tick before it -/

/-- A bank that is full after a tick took its last pair in it. -/
theorem accepted_of_filled {s : State} {inp : TickIn} (h : steadyPhase s) (hp : hostPremises s inp)
    (hf : filledPhase (tickStep s inp)) : acceptSignal s inp = true := by
  obtain ⟨hfull, -, -, hs, -⟩ := hf
  have hacc (hnone : s.full = ⟨false, false⟩) : acceptSignal s inp = true :=
    have ⟨_, _, hacc⟩ := accepted_of_becomes_full (by rw [hnone, getFlag_none]) hfull
    hacc
  obtain ⟨hnone, -⟩ | hfilled | ⟨hnone, -⟩ | ⟨hnone, -⟩ := h
  · exact hacc hnone
  · obtain ⟨⟨-, -, -, hs', -⟩, -⟩ := draining_of_filled hfilled (doneRe_of_filled hfilled hp)
    rw [hs] at hs'
    cases hs'
  · exact hacc hnone
  · exact hacc hnone

theorem filled_of_draining {s : State} {inp : TickIn} (h : steadyPhase s) (hd : drainingPhase (tickStep s inp)) :
    filledPhase s := by
  obtain ⟨-, -, -, hs, -⟩ := hd
  exact filled_of_drainSignal h (by simpa using hs)

theorem doneRe_of_flushing {s : State} {inp : TickIn} (h : steadyPhase s) (hp : hostPremises s inp)
    (hf : flushingPhase (tickStep s inp)) : inp.doneRe = true := by
  obtain ⟨-, -, -, -, hfp⟩ := hf
  by_contra hd
  have hfp' : isFlushDoneTick s inp = false ∧ s.flushPending = true := by
    simpa [tickStep_flushPending, hd] using hfp
  have hflushing := flushing_of_flushPending h hfp'.2
  obtain ⟨hdone, hacc⟩ := quiet_of_flushing hflushing hp
  simp [(streamStart_of_flushing hflushing hdone hacc).1] at hfp'

/-! ### Under the quiet windows of R239 -/

/-- What the phase at tick `t` says of the ticks before: a filled bank took its last pair at `t-1`, a draining one at
`t-2`, and a pending flush started at `t-1`. -/
structure PhaseHistory (st : Nat → State) (ins : Nat → TickIn) (t : Nat) : Prop where
  steady : steadyPhase (st t)
  filled : filledPhase (st t) → ∃ d, t = d + 1 ∧ acceptSignal (st d) (ins d) = true
  draining : drainingPhase (st t) → ∃ d, t = d + 2 ∧ acceptSignal (st d) (ins d) = true
  flushing : flushingPhase (st t) → ∃ d, t = d + 1 ∧ (ins d).doneRe = true

section QuietRun

variable {cfg : Config} {events : List Event} {st : Nat → State} {ins : Nat → TickIn}

/-- With the quiet windows the history gives the premises of the tick. -/
theorem PhaseHistory.hostPremises {t : Nat} (h : PhaseHistory st ins t) (hquiet : quietWindows st ins) :
    hostPremises (st t) (ins t) := by
  refine ⟨fun _ => busy_of_steady h.steady, ?_, ?_, ?_, ?_, ?_⟩
  · rintro ⟨hd, hdr⟩
    obtain ⟨d, rfl, hacc⟩ := h.filled (filled_of_drainSignal h.steady hdr)
    simp [(hquiet _ hd).1 d (by omega) (by omega)] at hacc
  · rintro ⟨hd, hs⟩
    obtain ⟨d, rfl, hacc⟩ := h.draining (draining_of_startSum h.steady hs)
    simp [(hquiet _ hd).1 d (by omega) (by omega)] at hacc
  · rintro ⟨hd, hacc⟩
    simp [(hquiet _ hd).1 t (by omega) (by omega)] at hacc
  · rintro ⟨hfp, hacc⟩
    obtain ⟨d, rfl, hd⟩ := h.flushing (flushing_of_flushPending h.steady hfp)
    simp [(hquiet _ hd).1 (d + 1) (by omega) (by omega)] at hacc
  · rintro ⟨hd', hfp⟩
    obtain ⟨d, rfl, hd⟩ := h.flushing (flushing_of_flushPending h.steady hfp)
    simp [(hquiet _ hd).2] at hd'

/-- Every tick of such a run has this history. -/
theorem phaseHistory (h0 : st 0 = State.initial cfg events) (hstep : ∀ t, st (t + 1) = tickStep (st t) (ins t))
    (hquiet : quietWindows st ins) (t : Nat) : PhaseHistory st ins t := by
  induction t with
  | zero =>
    refine ⟨h0 ▸ steadyPhase_initial cfg events, fun h => ?_, fun h => ?_, fun h => ?_⟩ <;> rw [h0] at h
    · obtain ⟨hfull, -⟩ := h
      cases hfull
    · obtain ⟨-, -, -, hs, -⟩ := h
      cases hs
    · obtain ⟨-, -, -, -, hfp⟩ := h
      cases hfp
  | succ t ih =>
    have hp := ih.hostPremises hquiet
    have hsteady := steadyPhase_tickStep ih.steady hp
    have hfilled := accepted_of_filled (inp := ins t) ih.steady hp
    have hdraining := filled_of_draining (inp := ins t) ih.steady
    have hflushing := doneRe_of_flushing ih.steady hp
    rw [← hstep t] at hsteady hfilled hdraining hflushing
    refine ⟨hsteady, fun h => ⟨t, rfl, hfilled h⟩, fun h => ?_, fun h => ⟨t, rfl, hflushing h⟩⟩
    obtain ⟨d, rfl, hacc⟩ := ih.filled (hdraining h)
    exact ⟨d, rfl, hacc⟩

/-- Settles O59, by the history of each tick. -/
theorem quietWindowsMeetThePremises : Obligations.QuietWindowsMeetThePremises := by
  intro cfg events st ins h0 hstep _ hquiet t
  have hp := (phaseHistory h0 hstep hquiet t).hostPremises hquiet
  exact ⟨hp, settled_of_hostPremises hp⟩

end QuietRun

end Sys2Proof.Machine
end

section
/-! The value a stream publishes (R237 item 4, R166 item 3). Between ticks the accumulator and the lanes that hold the
stream's pairs add up to the sum of the pairs accepted so far; FLUSH_DONE publishes that total. -/

namespace Sys2Proof.Machine

/-! ### The lanes that hold a stream's pairs -/

/-- The sum of a bank's first `k` lanes. -/
def laneSum (s : State) (b : Bank) (n : Exponent) (k : Nat) : Word :=
  ((List.range k).map fun i => lane s b (BitVec.ofNat 4 i) n).sum

theorem laneSum_succ (s : State) (b : Bank) (n : Exponent) (k : Nat) :
    laneSum s b n (k + 1) = laneSum s b n k + lane s b (BitVec.ofNat 4 k) n :=
  List.sum_range_succ (fun i => lane s b (BitVec.ofNat 4 i) n) k

theorem bankSum_eq_laneSum (s : State) (b : Bank) (n : Exponent) : bankSum s b n = laneSum s b n 16 := tree_eq_sum _

theorem laneSum_congr {s t : State} {b : Bank} {n : Exponent} {k : Nat}
    (h : ∀ i, i < k → lane t b (BitVec.ofNat 4 i) n = lane s b (BitVec.ofNat 4 i) n) :
    laneSum t b n k = laneSum s b n k := by
  unfold laneSum
  rw [List.map_congr_left fun i hi => h i (List.mem_range.1 hi)]

/-- Lanes without a sample y add nothing. -/
theorem laneSum_of_clean {s : State} {b : Bank} {n : Exponent} {c k : Nat} (hck : c ≤ k)
    (h : ∀ i, c ≤ i → i < k → yAt s (slot b (BitVec.ofNat 4 i)) = 0) : laneSum s b n k = laneSum s b n c := by
  induction k, hck using Nat.le_induction with
  | base => rfl
  | succ k hk ih =>
    rw [laneSum_succ, lane_of_yAt_zero s b _ n (h k hk k.lt_succ_self),
      ih fun i hi hik => h i hi (hik.trans k.lt_succ_self)]
    exact BitVec.add_zero _

theorem lane_congr {s t : State} {b : Bank} {i : Cursor} (n : Exponent) (hcfg : t.cfg = s.cfg)
    (hx : xAt t (slot b i) = xAt s (slot b i)) (hy : yAt t (slot b i) = yAt s (slot b i)) :
    lane t b i n = lane s b i n := by
  rw [lane, lane, laneBase, laneBase, laneY, laneY, hx, hy, hcfg]

/-- A tick leaves a lane where it neither stores nor zeroes. -/
theorem lane_tickStep_kept {s : State} {inp : TickIn} {b : Bank} {i : Cursor} (n : Exponent)
    (hstore : ¬(acceptSignal s inp = true ∧ slot b i = slot s.awb s.writeCursor))
    (hfold : ¬(s.startSum = true ∧ b = drainBank s)) : lane (tickStep s inp) b i n = lane s b i n :=
  lane_congr n (tickStep_cfg s inp) (by rw [xAt_tickStep, if_neg hstore])
    (by rw [yAt_tickStep, if_neg hstore, if_neg hfold])

/-- The lane of an accepted pair is the pair's term. -/
theorem lane_tickStep_accepted {s : State} {inp : TickIn} (n : Exponent) (h : acceptSignal s inp = true) :
    lane (tickStep s inp) s.awb s.writeCursor n = BitVec.ofNat 64 (pairTerm s.cfg.sentinel n (inp.xk, inp.yk)) := by
  rw [lane_eq_ofNat_pairTerm, xAt_tickStep, yAt_tickStep, if_pos ⟨h, rfl⟩, if_pos ⟨h, rfl⟩, tickStep_cfg]

/-! ### The sum of a stream -/

theorem streamSum_nil (sentinel : Word) (n : Exponent) : streamSum sentinel n [] = 0 := rfl

theorem streamSum_singleton (sentinel : Word) (n : Exponent) (p : Sample × Sample) :
    streamSum sentinel n [p] = BitVec.ofNat 64 (pairTerm sentinel n p) := by
  simp [streamSum]

theorem streamSum_append (sentinel : Word) (n : Exponent) (ps qs : List (Sample × Sample)) :
    streamSum sentinel n (ps ++ qs) = streamSum sentinel n ps + streamSum sentinel n qs := by
  simp [streamSum, BitVec.ofNat_add]

theorem acceptedPair_of_accepted {s : State} {inp : TickIn} (h : acceptSignal s inp = true) :
    acceptedPair s inp = [(inp.xk, inp.yk)] := if_pos h

theorem acceptedPair_of_none {s : State} {inp : TickIn} (h : acceptSignal s inp = false) : acceptedPair s inp = [] := by
  simp [acceptedPair, h]

/-- The active bank's lanes up to the cursor grow by the accepted pair's term. -/
theorem laneSum_awb_tickStep (s : State) (inp : TickIn) (n : Exponent) :
    laneSum (tickStep s inp) s.awb n (s.writeCursor.toNat + (acceptedPair s inp).length) =
      laneSum s s.awb n s.writeCursor.toNat + streamSum s.cfg.sentinel n (acceptedPair s inp) := by
  have hbelow : laneSum (tickStep s inp) s.awb n s.writeCursor.toNat = laneSum s s.awb n s.writeCursor.toNat := by
    refine laneSum_congr fun i hi => lane_tickStep_kept n ?_ fun h => awb_ne_drainBank s h.2
    rintro ⟨-, hslot⟩
    have hc := s.writeCursor.isLt
    have hi' := congrArg BitVec.toNat ((slot_inj _ _ _ _).1 hslot).2
    rw [BitVec.toNat_ofNat, Nat.mod_eq_of_lt (hi.trans hc)] at hi'
    omega
  cases hacc : acceptSignal s inp
  · rw [acceptedPair_of_none hacc, streamSum_nil, List.length_nil, Nat.add_zero, hbelow]
    exact (BitVec.add_zero _).symm
  · rw [acceptedPair_of_accepted hacc, streamSum_singleton, List.length_singleton, laneSum_succ, hbelow,
      BitVec.ofNat_toNat, BitVec.setWidth_eq, lane_tickStep_accepted n hacc]

/-- The drain bank's sum stands until it is folded. -/
theorem bankSum_drainBank_tickStep {s : State} (inp : TickIn) (n : Exponent) (hs : s.startSum = false) :
    bankSum (tickStep s inp) (drainBank s) n = bankSum s (drainBank s) n := by
  rw [bankSum_eq_laneSum, bankSum_eq_laneSum]
  refine laneSum_congr fun i _ => lane_tickStep_kept n ?_ (by simp [hs])
  rintro ⟨-, hslot⟩
  exact drainBank_ne s ((slot_inj _ _ _ _).1 hslot).1

/-- The cursor counts the accepted pairs of the active bank. -/
theorem writeCursor_toNat_tickStep {s : State} {inp : TickIn} (hf : isFlushDoneTick s inp = false)
    (hlast : ¬(acceptSignal s inp = true ∧ s.writeCursor = 15)) :
    (tickStep s inp).writeCursor.toNat = s.writeCursor.toNat + (acceptedPair s inp).length := by
  rw [tickStep_writeCursor, hf]
  cases hacc : acceptSignal s inp
  · rw [acceptedPair_of_none hacc]
    rfl
  · rw [acceptedPair_of_accepted hacc]
    exact cursor_succ_toNat fun hc => hlast ⟨hacc, hc⟩

/-! ### The total of a stream so far -/

/-- What the core holds of a stream: the accumulator, the lanes of the bank that was filling, and a full bank that is
still to be folded. While a flush is pending the bank that was filling is the drain bank. -/
def heldTotal (n : Exponent) (s : State) : Word :=
  s.accumulator +
    (if s.flushPending then laneSum s (drainBank s) n s.writeCursor.toNat
     else laneSum s s.awb n s.writeCursor.toNat +
       (if s.startSum || drainSignal s then bankSum s (drainBank s) n else 0))

theorem heldTotal_of_idle {s : State} (n : Exponent) (h : idlePhase s) :
    heldTotal n s = s.accumulator + laneSum s s.awb n s.writeCursor.toNat := by
  obtain ⟨hf, -, hs, hfp⟩ := h
  simp [heldTotal, hs, hfp, drainSignal_of_no_full hf]

theorem heldTotal_of_filled {s : State} (n : Exponent) (h : filledPhase s) :
    heldTotal n s = s.accumulator + (laneSum s s.awb n s.writeCursor.toNat + bankSum s (drainBank s) n) := by
  have hd := drainSignal_of_filled h
  obtain ⟨-, -, -, -, hfp, -⟩ := h
  simp [heldTotal, hfp, hd]

theorem heldTotal_of_draining {s : State} (n : Exponent) (h : drainingPhase s) :
    heldTotal n s = s.accumulator + (laneSum s s.awb n s.writeCursor.toNat + bankSum s (drainBank s) n) := by
  obtain ⟨-, -, -, hs, hfp, -⟩ := h
  simp [heldTotal, hs, hfp]

theorem heldTotal_of_flushing {s : State} (n : Exponent) (h : flushingPhase s) :
    heldTotal n s = s.accumulator + laneSum s (drainBank s) n s.writeCursor.toNat := by
  obtain ⟨-, -, -, -, hfp⟩ := h
  simp [heldTotal, hfp]

theorem heldTotal_of_streamStart {s : State} (n : Exponent) (h : streamStart s) : heldTotal n s = 0 := by
  obtain ⟨hidle, hacc, hcur⟩ := h
  rw [heldTotal_of_idle n hidle, hacc, hcur]
  exact BitVec.add_zero _

/-- A tick of an idle core adds its accepted pair. -/
theorem heldTotal_tickStep_of_idle {s : State} {inp : TickIn} (n : Exponent) (h : idlePhase s)
    (hp : hostPremises s inp) :
    heldTotal n (tickStep s inp) = heldTotal n s + streamSum s.cfg.sentinel n (acceptedPair s inp) := by
  have hkept : (tickStep s inp).accumulator = s.accumulator := by
    obtain ⟨-, -, hs, hfp⟩ := h
    exact accumulator_tickStep_kept hs hfp
  have hf : isFlushDoneTick s inp = false := by
    obtain ⟨-, -, -, hfp⟩ := h
    exact isFlushDoneTick_of_not_pending hfp
  have hlanes := laneSum_awb_tickStep s inp n
  rw [heldTotal_of_idle n h, BitVec.add_assoc, ← hlanes]
  cases hd : inp.doneRe
  · by_cases hlast : acceptSignal s inp = true ∧ s.writeCursor = 15
    · obtain ⟨hfilled, hdb⟩ := filled_of_idle h hd hlast.1 hlast.2
      have hcur : (tickStep s inp).writeCursor = 0 := by
        obtain ⟨-, -, -, -, -, hcur⟩ := hfilled
        exact hcur
      rw [heldTotal_of_filled n hfilled, hkept, hdb, hcur, bankSum_eq_laneSum, hlast.2,
        acceptedPair_of_accepted hlast.1]
      exact congrArg _ (BitVec.zero_add _)
    · obtain ⟨hidle, hawb⟩ := idle_of_idle h hd hlast
      rw [heldTotal_of_idle n hidle, hkept, hawb, writeCursor_toNat_tickStep hf hlast]
  · have hacc := acceptSignal_of_doneRe hp hd
    have hdb : drainBank (tickStep s inp) = s.awb := by
      obtain ⟨-, -, hs, -⟩ := h
      simp [drainBank, tickStep_awb, hs, hd]
    rw [heldTotal_of_flushing n (flushing_of_idle h hd hacc), hkept, hdb,
      writeCursor_toNat_tickStep hf (by simp [hacc])]

/-- A tick that drains moves no lane, and adds its accepted pair. -/
theorem heldTotal_tickStep_of_filled {s : State} {inp : TickIn} (n : Exponent) (h : filledPhase s)
    (hp : hostPremises s inp) :
    heldTotal n (tickStep s inp) = heldTotal n s + streamSum s.cfg.sentinel n (acceptedPair s inp) := by
  obtain ⟨hdraining, hawb⟩ := draining_of_filled h (doneRe_of_filled h hp)
  have hdb : drainBank (tickStep s inp) = drainBank s := by rw [drainBank, hawb, drainBank]
  have hheld := heldTotal_of_filled n h
  obtain ⟨-, -, -, hs, hfp, hcur⟩ := h
  rw [hheld, heldTotal_of_draining n hdraining, accumulator_tickStep_kept hs hfp, hawb, hdb,
    bankSum_drainBank_tickStep inp n hs,
    writeCursor_toNat_tickStep (isFlushDoneTick_of_not_pending hfp) (by simp [hcur]), laneSum_awb_tickStep]
  ac_rfl

/-- A fold moves the full bank's sum into the accumulator, and the tick adds its accepted pair. -/
theorem heldTotal_tickStep_of_draining {s : State} {inp : TickIn} (n : Exponent) (h : drainingPhase s)
    (hexp : inp.exp = n) :
    heldTotal n (tickStep s inp) = heldTotal n s + streamSum s.cfg.sentinel n (acceptedPair s inp) := by
  obtain ⟨hidle, hawb⟩ := idle_of_draining inp h
  have hheld := heldTotal_of_draining n h
  obtain ⟨-, -, -, hs, hfp, hcur⟩ := h
  have hlast : ¬(acceptSignal s inp = true ∧ s.writeCursor = 15) := by
    rintro ⟨-, hc⟩
    rw [hc] at hcur
    exact absurd hcur (by decide)
  rw [hheld, heldTotal_of_idle n hidle, hawb, tickStep_accumulator, if_pos hs, hexp,
    writeCursor_toNat_tickStep (isFlushDoneTick_of_startSum hs) hlast, laneSum_awb_tickStep]
  ac_rfl

/-- A tick that meets the premises, and is no FLUSH_DONE, adds its accepted pair. -/
theorem heldTotal_tickStep {s : State} {inp : TickIn} {n : Exponent} (h : steadyPhase s) (hp : hostPremises s inp)
    (he : pExpStable n s inp) (hf : isFlushDoneTick s inp = false) :
    heldTotal n (tickStep s inp) = heldTotal n s + streamSum s.cfg.sentinel n (acceptedPair s inp) := by
  obtain h | h | h | h := h
  · exact heldTotal_tickStep_of_idle n h hp
  · exact heldTotal_tickStep_of_filled n h hp
  · have hs : s.startSum = true := by
      obtain ⟨-, -, -, hs, -⟩ := h
      exact hs
    exact heldTotal_tickStep_of_draining n h (he (.inl hs))
  · obtain ⟨hd, ha⟩ := quiet_of_flushing h hp
    simp [(streamStart_of_flushing h hd ha).1] at hf

/-! ### Over a run -/

theorem runTicks_append (s : State) (body rest : List TickIn) :
    runTicks s (body ++ rest) = runTicks (runTicks s body) rest := by
  induction body generalizing s with
  | nil => rfl
  | cons inp body ih => exact ih (tickStep s inp)

theorem acceptedPairs_append (s : State) (body rest : List TickIn) :
    acceptedPairs s (body ++ rest) = acceptedPairs s body ++ acceptedPairs (runTicks s body) rest := by
  induction body generalizing s with
  | nil => rfl
  | cons inp body ih =>
    rw [List.cons_append, acceptedPairs, ih, acceptedPairs, List.append_assoc]
    rfl

/-- Along a run without a FLUSH_DONE the core holds the sum of the pairs accepted so far, in one of its phases. -/
theorem heldTotal_runTicks {n : Exponent} {s : State} {body rest : List TickIn} (h : steadyPhase s)
    (hp : premisesAlong n s (body ++ rest)) (hf : noFlushDoneAlong s body) :
    heldTotal n (runTicks s body) = heldTotal n s + streamSum s.cfg.sentinel n (acceptedPairs s body) ∧
    steadyPhase (runTicks s body) ∧ premisesAlong n (runTicks s body) rest := by
  induction body generalizing s with
  | nil => exact ⟨(BitVec.add_zero _).symm, h, hp⟩
  | cons inp body ih =>
    obtain ⟨hhost, hexp, -, hrest⟩ := hp
    obtain ⟨hf0, hfrest⟩ := hf
    obtain ⟨htotal, hsteady, hlast⟩ := ih (steadyPhase_tickStep h hhost) hrest hfrest
    refine ⟨?_, hsteady, hlast⟩
    rw [runTicks, htotal, heldTotal_tickStep h hhost hexp hf0, tickStep_cfg, acceptedPairs, streamSum_append,
      BitVec.add_assoc]

/-- A FLUSH_DONE that finds no stale sample publishes what the core holds. -/
theorem result_of_flushDone {n : Exponent} {s : State} {inp : TickIn} (h : flushingPhase s)
    (hf : isFlushDoneTick s inp = true) (hexp : inp.exp = n) (hclean : pCleanPartial s inp) :
    (tickStep s inp).result = heldTotal n s := by
  have hc := s.writeCursor.isLt
  have hlanes : laneSum s (drainBank s) n 16 = laneSum s (drainBank s) n s.writeCursor.toNat := by
    refine laneSum_of_clean (by omega) fun i hci hi => hclean hf _ ?_
    rwa [BitVec.toNat_ofNat, Nat.mod_eq_of_lt hi]
  rw [tickStep_result, if_pos hf, heldTotal_of_flushing n h, hexp, bankSum_eq_laneSum, hlanes]

/-- Settles O58: the core holds the stream's sum when FLUSH_DONE publishes it. -/
theorem publishedResultIsTheStreamSum : Obligations.PublishedResultIsTheStreamSum := by
  intro n s body last hstart hp hbody hf
  have hsteady : steadyPhase s := by
    obtain ⟨hidle, -⟩ := hstart
    exact .inl hidle
  obtain ⟨htotal, ht, hhost, hexp, hclean, -⟩ := heldTotal_runTicks hsteady hp hbody
  obtain ⟨-, -, hfp⟩ := (isFlushDoneTick_iff _ last).1 hf
  have hflushing := flushing_of_flushPending ht hfp
  obtain ⟨hdone, hacc⟩ := quiet_of_flushing hflushing hhost
  have hpairs : acceptedPairs s (body ++ [last]) = acceptedPairs s body := by
    rw [acceptedPairs_append, acceptedPairs, acceptedPair_of_none hacc, acceptedPairs, List.append_nil, List.append_nil]
  rw [runTicks_append, hpairs]
  simp only [runTicks]
  refine ⟨?_, by rw [tickStep_valid, if_pos hf], (streamStart_of_flushing hflushing hdone hacc).2⟩
  rw [result_of_flushDone hflushing hf (hexp (.inr hf)) hclean, htotal, heldTotal_of_streamStart n hstart]
  exact BitVec.zero_add _

end Sys2Proof.Machine
end

section
/-! Runs and what they observe (R197, R198), readings of `result` in bus words (R54, R57, R238), and the tick script
(R84). -/

namespace Sys2Proof.Machine

/-! ### Runs -/

/-- A tick that leaves a state is one exec answers. -/
theorem exec_tick_of_tickNext {s t : State} {inp : TickIn} (h : tickNext s inp = some t) :
    exec (.tick inp) s = .next t := by
  have hruns : tickRuns s inp := by
    by_contra hno
    rw [(tickNext_none s inp).2 hno] at h
    cases h
  rw [tickNext_some s t inp h, exec_tick_of_runs hruns]

/-- A tick that does not run meets an unsettled case under REFUSE. -/
theorem not_tickRuns_iff (s : State) (inp : TickIn) :
    ¬tickRuns s inp ↔ s.cfg.unsettledPolicy = .refuse ∧ ∃ u, isUnsettled s inp u = true := by
  cases hp : s.cfg.unsettledPolicy <;> simp [tickRuns, hp]

/-- Under REFUSE an unsettled tick is refused by the name of a case that holds. -/
theorem exec_tick_refused {s : State} {inp : TickIn} (h : ¬tickRuns s inp) :
    ∃ u, isUnsettled s inp u = true ∧ exec (.tick inp) s = .refused (.unsettledTick u) := by
  obtain hnext | ⟨u, -, hu, href⟩ := runTick_cases s inp s
  · have : tickNext s inp = some (tickStep s inp) := by
      unfold tickNext execTick
      rw [hnext]
      rfl
    rw [(tickNext_none s inp).2 h] at this
    cases this
  · exact ⟨u, isUnsettled_of_case s inp u hu, href⟩

theorem runEnd_cons_of_runs {s : State} {inp : TickIn} (h : tickRuns s inp) (rest : List TickIn) :
    runEnd s (inp :: rest) = runEnd (tickStep s inp) rest := by
  rw [runEnd, tickNext_of_runs s inp h]
  rfl

theorem runEnd_cons_of_not_runs {s : State} {inp : TickIn} (h : ¬tickRuns s inp) (rest : List TickIn) :
    runEnd s (inp :: rest) = none := by
  rw [runEnd, (tickNext_none s inp).2 h]
  rfl

theorem runEnd_reference {s : State} (ins : List TickIn) (h : s.cfg.unsettledPolicy = .reference) :
    runEnd s ins = some (runTicks s ins) := by
  induction ins generalizing s with
  | nil => rfl
  | cons inp rest ih =>
    rw [runEnd_cons_of_runs (.inl h)]
    exact ih (by rw [tickStep_cfg, h])

/-- A run with an end state is the ticks one after another. -/
theorem runEnd_some {s t : State} {ins : List TickIn} (h : runEnd s ins = some t) : t = runTicks s ins := by
  induction ins generalizing s with
  | nil => exact (Option.some.inj h).symm
  | cons inp rest ih =>
    by_cases hr : tickRuns s inp
    · rw [runEnd_cons_of_runs hr] at h
      exact ih h
    · rw [runEnd_cons_of_not_runs hr] at h
      cases h

/-- Under REFUSE a run has no end state exactly where a tick it reaches is unsettled. -/
theorem runEnd_none_iff {s : State} {ins : List TickIn} (hp : s.cfg.unsettledPolicy = .refuse) :
    runEnd s ins = none ↔ ∃ body bad rest u, ins = body ++ bad :: rest ∧
      runEnd s body = some (runTicks s body) ∧ isUnsettled (runTicks s body) bad u = true := by
  induction ins generalizing s with
  | nil => simp [runEnd]
  | cons inp ins ih =>
    by_cases hr : tickRuns s inp
    · rw [runEnd_cons_of_runs hr, ih (by rw [tickStep_cfg, hp])]
      constructor
      · rintro ⟨body, bad, rest, u, rfl, hend, hu⟩
        exact ⟨inp :: body, bad, rest, u, rfl, (runEnd_cons_of_runs hr body).trans hend, hu⟩
      · rintro ⟨body, bad, rest, u, hins, hend, hu⟩
        cases body with
        | nil =>
          obtain ⟨rfl, rfl⟩ := List.cons.inj hins
          exact absurd hr ((not_tickRuns_iff s inp).2 ⟨hp, u, hu⟩)
        | cons inp' body =>
          obtain ⟨rfl, rfl⟩ := List.cons.inj hins
          exact ⟨body, bad, rest, u, rfl, (runEnd_cons_of_runs hr body).symm.trans hend, hu⟩
    · obtain ⟨-, u, hu⟩ := (not_tickRuns_iff s inp).1 hr
      exact iff_of_true (runEnd_cons_of_not_runs hr ins) ⟨[], inp, ins, u, rfl, rfl, hu⟩

/-- A run with an end state passes the states of its prefixes. -/
theorem runStates_some {s t : State} {ins : List TickIn} (h : runEnd s ins = some t) :
    runStates s ins = some ((List.range (ins.length + 1)).map fun k => runTicks s (ins.take k)) := by
  induction ins generalizing s with
  | nil => rfl
  | cons inp rest ih =>
    by_cases hr : tickRuns s inp
    · rw [runEnd_cons_of_runs hr] at h
      rw [runStates, tickNext_of_runs s inp hr, Option.bind_some, ih h, List.length_cons,
        List.range_succ_eq_map (n := rest.length + 1)]
      simp [runTicks, Function.comp_def]
    · rw [runEnd_cons_of_not_runs hr] at h
      cases h

/-- A refused run has no states to observe. -/
theorem runStates_none {s : State} {ins : List TickIn} (h : runEnd s ins = none) : runStates s ins = none := by
  induction ins generalizing s with
  | nil => cases h
  | cons inp rest ih =>
    by_cases hr : tickRuns s inp
    · rw [runEnd_cons_of_runs hr] at h
      rw [runStates, tickNext_of_runs s inp hr, Option.bind_some, ih h, Option.map_none]
    · rw [runStates, (tickNext_none s inp).2 hr, Option.bind_none]

/-- Settles O37, by R197's table for a tick and by its ticks for a run. -/
theorem unsettledTicksFollowThePolicy : Obligations.UnsettledTicksFollowThePolicy := by
  intro s inp
  refine ⟨isUnsettled_u1_iff s inp, isUnsettled_u2_iff s inp, isUnsettled_u3_iff s inp, isUnsettled_u4_iff s inp,
    isUnsettled_u5_iff s inp, fun hp hu => exec_tick_refused ((not_tickRuns_iff s inp).2 ⟨hp, hu⟩),
    fun _ hu => exec_tick_of_runs (.inr hu), fun hp => exec_tick_of_runs (.inl hp), fun v hv => ?published,
    fun ins => ⟨runEnd_reference ins, runEnd_none_iff, fun t ht => ⟨runEnd_some ht, ?observed⟩, fun hnone => ?_⟩⟩
  case published =>
    rw [publishedValue] at hv
    split_ifs at hv with hf
    obtain ⟨t, ht, rfl⟩ := Option.map_eq_some_iff.1 hv
    refine ⟨hf, t, exec_tick_of_tickNext ht, rfl, ?_⟩
    rw [tickNext_some s t inp ht, tickStep_valid, if_pos hf]
  case observed =>
    refine ⟨_, by rw [observeRun, runStates_some ht, Option.map_some], by simp, fun k hk => ?_⟩
    rw [List.getElem?_map, List.getElem?_map, List.getElem?_range (by omega)]
    rfl
  · rw [observeRun, runStates_none hnone, Option.map_none]

/-! ### The bits of a bus word -/

/-- Bit `i` of a bus word is bit `i` of its slice of `result` (R54). -/
theorem testBit_resultWord (cfg : Config) (r : Word) (part i : Nat) : (resultWord cfg r part).toNat.testBit i =
    (decide (i < cfg.busWidth) && r.toNat.testBit (resultSlice cfg part * cfg.busWidth + i)) := by
  have hlt : (r.toNat >>> (resultSlice cfg part * cfg.busWidth)) % 2 ^ cfg.busWidth < 2 ^ 64 :=
    ((Nat.mod_le _ _).trans (Nat.shiftRight_le _ _)).trans_lt r.isLt
  rw [resultWord, BitVec.toNat_ofNat, Nat.mod_eq_of_lt hlt, Nat.testBit_mod_two_pow, Nat.testBit_shiftRight]

/-- The number of the last bus word. -/
theorem resultWords_sub_one {cfg : Config} (h : 0 < cfg.busWidth) : resultWords cfg - 1 = 63 / cfg.busWidth := by
  rw [resultWords, show 64 + cfg.busWidth - 1 = 63 + cfg.busWidth by omega, Nat.add_div_right _ h, Nat.add_sub_cancel]

theorem resultSlice_lowFirst {cfg : Config} (h : cfg.resultWordOrder = .lowFirst) (part : Nat) :
    resultSlice cfg part = part := by
  rw [resultSlice, h]

theorem resultSlice_highFirst {cfg : Config} (hw : 0 < cfg.busWidth) (h : cfg.resultWordOrder = .highFirst)
    (part : Nat) : resultSlice cfg part = 63 / cfg.busWidth - part := by
  rw [resultSlice, h, ← resultWords_sub_one hw]

/-- The bus word that holds bit `j` exists, and holds it. -/
theorem wordOfBit_spec {cfg : Config} {j : Nat} (hw : 0 < cfg.busWidth) (hj : j < 64) :
    cfg.partExists (wordOfBit cfg j) = true ∧ resultSlice cfg (wordOfBit cfg j) = j / cfg.busWidth := by
  have hle : j / cfg.busWidth ≤ 63 / cfg.busWidth := Nat.div_le_div_right (by omega)
  have hexists {p : Nat} (hp : p ≤ 63 / cfg.busWidth) : cfg.partExists p = true := by
    have := (Nat.le_div_iff_mul_le hw).1 hp
    exact decide_eq_true (by omega)
  cases ho : cfg.resultWordOrder with
  | lowFirst =>
    have hword : wordOfBit cfg j = j / cfg.busWidth := by rw [wordOfBit, ho]
    rw [hword]
    exact ⟨hexists hle, resultSlice_lowFirst ho _⟩
  | highFirst =>
    have hword : wordOfBit cfg j = 63 / cfg.busWidth - j / cfg.busWidth := by rw [wordOfBit, ho]
    rw [hword]
    exact ⟨hexists (Nat.sub_le _ _), by rw [resultSlice_highFirst hw ho, Nat.sub_sub_self hle]⟩

/-- Every bit of `result` is in the bus word that holds it. -/
theorem testBit_wordOfBit {cfg : Config} {j : Nat} (r : Word) (hw : 0 < cfg.busWidth) (hj : j < 64) :
    (resultWord cfg r (wordOfBit cfg j)).toNat.testBit (j % cfg.busWidth) = r.toNat.testBit j := by
  rw [testBit_resultWord, (wordOfBit_spec hw hj).2, decide_eq_true (Nat.mod_lt j hw), Bool.true_and,
    Nat.div_add_mod']

/-! ### Readings -/

@[simp] theorem readStep_cfg (s : State) (a : ReadAction) : (readStep s a).cfg = s.cfg := by
  cases a with
  | part p => rfl
  | writeDone v => rfl
  | tick inp => exact tickStep_cfg s inp

/-- With no flush pending an action without a done pulse publishes nothing and starts no flush; one that keeps the
`done` level keeps `valid`. -/
theorem readStep_keeps_result {s : State} {a : ReadAction} (hfp : s.flushPending = false) (ha : noDonePulse a = true) :
    (readStep s a).result = s.result ∧ (readStep s a).flushPending = false ∧
    (keepsDone a = true → (readStep s a).valid = s.valid) := by
  cases a with
  | part p => exact ⟨rfl, hfp, fun _ => rfl⟩
  | writeDone v => exact ⟨rfl, hfp, fun _ => rfl⟩
  | tick inp =>
    have hd : inp.doneRe = false := by simpa [noDonePulse] using ha
    have hf := isFlushDoneTick_of_not_pending (inp := inp) hfp
    exact ⟨by simp [tickStep_result, hf], by simp [tickStep_flushPending, hd, hf, hfp],
      fun hl => by simp [tickStep_valid, hf, show inp.doneLvl = true from hl]⟩

/-- The words of a reading with no flush pending and no done pulse are slices of the `result` it starts with. -/
theorem wordsRead_eq_resultWord {s : State} {acts : List ReadAction} {p : Nat} {v : Word}
    (hfp : s.flushPending = false) (hacts : ∀ a ∈ acts, noDonePulse a = true) (h : (p, v) ∈ wordsRead s acts) :
    v = resultWord s.cfg s.result p := by
  induction acts generalizing s with
  | nil => cases h
  | cons a rest ih =>
    obtain ⟨hres, hfp', -⟩ := readStep_keeps_result hfp (hacts a List.mem_cons_self)
    have hrest (h : (p, v) ∈ wordsRead (readStep s a) rest) : v = resultWord s.cfg s.result p := by
      rw [ih hfp' (fun a' ha' => hacts a' (List.mem_cons_of_mem a ha')) h, hres, readStep_cfg]
    cases a with
    | part q =>
      obtain heq | h := List.mem_cons.1 h
      · obtain ⟨rfl, rfl⟩ := Prod.mk.inj heq
        rfl
      · exact hrest h
    | writeDone w => exact hrest h
    | tick inp => exact hrest h

/-- Such a reading that keeps the `done` level keeps `valid` and `result`. -/
theorem afterReading_keeps {s : State} {acts : List ReadAction} (hfp : s.flushPending = false)
    (hacts : ∀ a ∈ acts, noDonePulse a = true) (hdone : ∀ a ∈ acts, keepsDone a = true) :
    (afterReading s acts).valid = s.valid ∧ (afterReading s acts).result = s.result := by
  induction acts generalizing s with
  | nil => exact ⟨rfl, rfl⟩
  | cons a rest ih =>
    obtain ⟨hres, hfp', hvalid⟩ := readStep_keeps_result hfp (hacts a List.mem_cons_self)
    obtain ⟨hv, hr⟩ := ih hfp' (fun a' ha' => hacts a' (List.mem_cons_of_mem a ha'))
      fun a' ha' => hdone a' (List.mem_cons_of_mem a ha')
    exact ⟨hv.trans (hvalid (hdone a List.mem_cons_self)), hr.trans hres⟩

/-- A word asked for is returned. -/
theorem exists_wordsRead {s : State} {acts : List ReadAction} {p : Nat} (h : .part p ∈ acts) :
    ∃ v, (p, v) ∈ wordsRead s acts := by
  induction acts generalizing s with
  | nil => cases h
  | cons a rest ih =>
    cases a with
    | part q =>
      obtain heq | h := List.mem_cons.1 h
      · obtain rfl := ReadAction.part.inj heq
        exact ⟨_, List.mem_cons_self⟩
      · obtain ⟨v, hv⟩ := ih (s := readStep s (.part q)) h
        exact ⟨v, List.mem_cons_of_mem _ hv⟩
    | writeDone w => exact ih ((List.mem_cons.1 h).resolve_left (by simp))
    | tick inp => exact ih ((List.mem_cons.1 h).resolve_left (by simp))

theorem afterReading_cfg (s : State) (acts : List ReadAction) : (afterReading s acts).cfg = s.cfg := by
  induction acts generalizing s with
  | nil => rfl
  | cons a rest ih => exact (ih (readStep s a)).trans (readStep_cfg s a)

theorem wordsRead_append (s : State) (before rest : List ReadAction) :
    wordsRead s (before ++ rest) = wordsRead s before ++ wordsRead (afterReading s before) rest := by
  induction before generalizing s with
  | nil => rfl
  | cons a before ih => cases a <;> simp [wordsRead, afterReading, ih]

/-- A word is read while `valid` is 1. -/
theorem valid_of_readsWhileValid {s : State} {before after : List ReadAction} {p : Nat}
    (h : readsWhileValid s (before ++ .part p :: after)) : (afterReading s before).valid = true := by
  induction before generalizing s with
  | nil =>
    obtain ⟨hv, -⟩ := h
    exact hv
  | cons a before ih =>
    cases a with
    | part q =>
      obtain ⟨-, h⟩ := h
      exact ih h
    | writeDone v => exact ih h
    | tick inp => exact ih h

/-- Settles O44: the bits of one word, and the words of one reading. -/
theorem busWordsOfResultHoldItsBits : Obligations.BusWordsOfResultHoldItsBits := by
  refine ⟨fun s inp hf => ?published, fun lvl s acts hfp hread hwide => ?reading,
    fun lvl s before after hw hread => ?whole, fun s part hw _ => ?word⟩
  case published =>
    obtain ⟨-, hd, -⟩ := (isFlushDoneTick_iff s inp).1 hf
    exact ⟨by simp [tickStep_flushPending, hd, hf], by simp [tickStep_valid, hf]⟩
  case reading =>
    obtain ⟨-, ⟨-, hkeeps⟩, hnarrow⟩ := hread
    have hquiet : ∀ a ∈ acts, noDonePulse a = true := (lt_or_ge s.cfg.busWidth 64).elim hnarrow hwide
    have hslices {p : Nat} {v : Word} : (p, v) ∈ wordsRead s acts → v = resultWord s.cfg s.result p :=
      wordsRead_eq_resultWord hfp hquiet
    obtain ⟨hvalid, hresult⟩ := afterReading_keeps hfp hquiet hkeeps
    refine ⟨fun p v => hslices, fun hv => ⟨hvalid.trans hv, hresult⟩, fun hw hevery j hj => ?_⟩
    obtain ⟨v, hv⟩ := exists_wordsRead (s := s) (hevery _ (wordOfBit_spec hw hj).1)
    exact ⟨v, hv, by rw [hslices hv, testBit_wordOfBit s.result hw hj]⟩
  case whole =>
    obtain ⟨hvalid, -⟩ := hread
    refine ⟨valid_of_readsWhileValid hvalid, ?_⟩
    rw [wordsRead_append, wordsRead, readStep_part_readData, resultWord_of_wide (by rwa [afterReading_cfg])]
  case word =>
    refine ⟨_, exec_rdResult part s, fun ho j => ?_, fun ho j => ?_⟩
    · rw [testBit_resultWord, resultSlice_lowFirst ho]
    · rw [testBit_resultWord, resultSlice_highFirst hw ho]

/-! ### The tick script -/

/-- `tick` writes no level and has no pulse (R84). -/
theorem assemble_tickLine (lv : ScriptLevels) (ls : List ScriptLine) :
    assemble lv (tickLine :: ls) = ⟨lv.xk, lv.yk, lv.exp, false, false, lv.lvl⟩ :: assemble lv ls := rfl

theorem assemble_idleLines (lv : ScriptLevels) (n : Nat) (ls : List ScriptLine) : assemble lv (idleLines n ++ ls) =
    List.replicate n ⟨lv.xk, lv.yk, lv.exp, false, false, lv.lvl⟩ ++ assemble lv ls := by
  induction n with
  | zero => rfl
  | succ n ih =>
    rw [idleLines, List.replicate_succ, List.cons_append, assemble_tickLine, List.replicate_succ, List.cons_append]
    exact congrArg _ ih

/-- Settles O60, by the line each pseudo-instruction expands to. -/
theorem scriptLinesExpand : Obligations.ScriptLinesExpand :=
  ⟨rfl, fun _ _ _ => rfl, fun _ _ _ _ => rfl, fun _ _ => rfl, fun _ _ => rfl, assemble_idleLines⟩

end Sys2Proof.Machine
end
